-- ==== Sys2Proof/Word.lean ====
section
/-! DEFINITION. Word.lean: the words the pipeline works with (00_scope.md R8, R9, R13).
A DWord has 32 bits, a register (GRF, URB, ROB, M0) 256 bits; bit 0 is the least significant. -/

namespace Sys2Proof

/-- One byte of graphics memory. -/
abbrev Byte := BitVec 8

/-- One DWord: 32 bits, bit 31 the most significant (00_scope.md R9). -/
abbrev DWord := BitVec 32

/-- One 8-DWord register: GRF, URB entry register, ROB register or M0 (00_scope.md R13). -/
abbrev Reg := BitVec 256

/-- How many 8-DWord registers hold `n` DWords (43_primitive_commands.md R301). -/
def ceil8 (n : Nat) : Nat := (n + 7) / 8

end Sys2Proof
end

