-- ==== Sys2Proof/Syntax.lean ====
section
/-! DEFINITION. Syntax.lean: the sixteen instructions of opcode_table.json as terms: eight media commands
(30_encoding.md R123) and eight thread spawn message forms (30_encoding.md R135), with their operands.

A command keeps its DWord Length field as an operand: the length selects how many DWords belong to the command
(30_encoding.md R122), and a length that is not legal for the opcode is a value of that field which the meaning refuses
(30_encoding.md R124). Fields the spec calls MBZ, Reserved or Ignored are no operands. -/

namespace Sys2Proof

/-! ### Media commands -/

/-- The relative position of the dependent instance of one scoreboard; both S3 (42_state_commands.md R255). -/
structure ScoreboardDelta where
  x : BitVec 4
  y : BitVec 4
deriving DecidableEq, Repr, Inhabited

/-- The fields of MEDIA_VFE_STATE, which are the VFE state record (10_state.md R35, 30_encoding.md R125). -/
structure VfeRecord where
  /-- General State offset bits 31:10. -/
  scratchSpaceBasePointer : BitVec 22
  stackSize               : BitVec 4
  /-- Scratch space of one thread is this many KB plus one (42_state_commands.md R251). -/
  perThreadScratchSpace   : BitVec 4
  /-- Thread count minus one. -/
  maximumNumberOfThreads  : BitVec 16
  numberOfUrbEntries      : BitVec 8
  resetGatewayTimer       : Bool
  bypassGatewayControl    : Bool
  fastPreempt             : Bool
  urbEntryAllocationSize  : BitVec 16
  curbeAllocationSize     : BitVec 16
  scoreboardEnable        : Bool
  /-- False is the stalling scoreboard, true the non-stalling one (42_state_commands.md R255). -/
  scoreboardType          : Bool
  scoreboardMask          : BitVec 8
  deltas                  : Vector ScoreboardDelta 8
deriving DecidableEq, Repr

/-- MEDIA_VFE_STATE (42_state_commands.md R250). -/
structure MediaVfeState where
  dwordLength : BitVec 16
  fields      : VfeRecord
deriving DecidableEq, Repr

/-- MEDIA_CURBE_LOAD (42_state_commands.md R256). -/
structure MediaCurbeLoad where
  dwordLength  : BitVec 16
  /-- In bytes. -/
  totalLength  : BitVec 17
  /-- Offset from the Dynamic State base. -/
  startAddress : BitVec 32
deriving DecidableEq, Repr

/-- MEDIA_INTERFACE_DESCRIPTOR_LOAD (42_state_commands.md R260). -/
structure MediaInterfaceDescriptorLoad where
  dwordLength  : BitVec 16
  /-- In bytes. -/
  totalLength  : BitVec 17
  /-- Offset from the Dynamic State base. -/
  startAddress : BitVec 32
deriving DecidableEq, Repr

/-- MEDIA_GATEWAY_STATE (42_state_commands.md R280). -/
structure MediaGatewayState where
  dwordLength : BitVec 16
  barrierId   : BitVec 8
  byte        : BitVec 8
  threadCount : BitVec 8
deriving DecidableEq, Repr

/-- MEDIA_STATE_FLUSH (42_state_commands.md R284). -/
structure MediaStateFlush where
  dwordLength          : BitVec 16
  threadCountWaterMark : BitVec 8
  barrierMask          : BitVec 16
deriving DecidableEq, Repr

/-- MEDIA_OBJECT (43_primitive_commands.md R300). -/
structure MediaObject where
  dwordLength               : BitVec 16
  interfaceDescriptorOffset : BitVec 6
  childrenPresent           : Bool
  threadSync                : Bool
  useScoreboard             : Bool
  halfSlice                 : BitVec 2
  /-- In bytes. -/
  indirectDataLength        : BitVec 17
  /-- Offset from the Indirect Object base. -/
  indirectDataStartAddress  : BitVec 32
  scoreboardX               : BitVec 9
  scoreboardY               : BitVec 9
  scoreboardColor           : BitVec 4
  scoreboardMask            : BitVec 8
  inlineData                : List DWord
deriving DecidableEq, Repr

/-- MEDIA_OBJECT_PRT (43_primitive_commands.md R310). -/
structure MediaObjectPrt where
  dwordLength               : BitVec 16
  interfaceDescriptorOffset : BitVec 6
  childrenPresent           : Bool
  fenceNeeded               : Bool
  /-- False is the root thread queue fence, true the VFE state flush fence (43_primitive_commands.md R314). -/
  fenceType                 : Bool
  inlineData                : List DWord
deriving DecidableEq, Repr

/-- A pair of walker field values, X and Y, of one width (40_vfe_and_walker.md R176). -/
structure FieldXY (w : Nat) where
  x : BitVec w
  y : BitVec w
deriving DecidableEq, Repr

/-- The walker parameters of MEDIA_OBJECT_WALKER, DWords 6 to 16 (40_vfe_and_walker.md R176). The U9 pairs are
unsigned; the 10-bit (S9) and 2-bit (S1) pairs are two's complement (00_scope.md R10). -/
structure WalkerParams where
  dualMode              : Bool
  repel                 : Bool
  colorCountMinusOne    : BitVec 4
  middleLoopExtraSteps  : BitVec 5
  localMidLoopUnit      : FieldXY 2
  globalLoopExecCount   : BitVec 10
  localLoopExecCount    : BitVec 10
  blockResolution       : FieldXY 9
  localStart            : FieldXY 9
  localEnd              : FieldXY 9
  localOuterLoopStride  : FieldXY 10
  localInnerLoopUnit    : FieldXY 10
  globalResolution      : FieldXY 9
  globalStart           : FieldXY 10
  globalOuterLoopStride : FieldXY 10
  globalInnerLoopUnit   : FieldXY 10
deriving DecidableEq, Repr

/-- MEDIA_OBJECT_WALKER (43_primitive_commands.md R320). -/
structure MediaObjectWalker where
  dwordLength               : BitVec 16
  interfaceDescriptorOffset : BitVec 6
  childrenPresent           : Bool
  threadSync                : Bool
  useScoreboard             : Bool
  /-- Must be 0 (43_primitive_commands.md R322). -/
  indirectDataLength        : BitVec 17
  scoreboardMask            : BitVec 8
  walk                      : WalkerParams
  inlineData                : List DWord
deriving DecidableEq, Repr

/-! ### Thread spawn messages -/

/-- The fields of M0 and the EOT bit of the SEND that a thread spawn message carries
(30_encoding.md R136, 41_thread_spawner.md R203, 45_messages.md R403). -/
structure MsgFields where
  /-- End of thread, a bit of the SEND (45_messages.md R401). -/
  eot       : Bool
  handle    : BitVec 16
  offset    : BitVec 10
  length    : BitVec 6
  interfaceDescriptorOffset : BitVec 6
  color     : BitVec 4
  barrierId : BitVec 4
  fftid     : BitVec 8
deriving DecidableEq, Repr

/-- The instructions: one constructor per row of opcode_table.json. -/
inductive Instr where
  /-- MEDIA_VFE_STATE, 42_state_commands.md R250. -/
  | mediaVfeState (c : MediaVfeState)
  /-- MEDIA_CURBE_LOAD, 42_state_commands.md R256. -/
  | mediaCurbeLoad (c : MediaCurbeLoad)
  /-- MEDIA_INTERFACE_DESCRIPTOR_LOAD, 42_state_commands.md R260. -/
  | mediaInterfaceDescriptorLoad (c : MediaInterfaceDescriptorLoad)
  /-- MEDIA_GATEWAY_STATE, 42_state_commands.md R280. -/
  | mediaGatewayState (c : MediaGatewayState)
  /-- MEDIA_STATE_FLUSH, 42_state_commands.md R284. -/
  | mediaStateFlush (c : MediaStateFlush)
  /-- MEDIA_OBJECT, 43_primitive_commands.md R300. -/
  | mediaObject (c : MediaObject)
  /-- MEDIA_OBJECT_PRT, 43_primitive_commands.md R310. -/
  | mediaObjectPrt (c : MediaObjectPrt)
  /-- MEDIA_OBJECT_WALKER, 43_primitive_commands.md R320. -/
  | mediaObjectWalker (c : MediaObjectWalker)
  /-- TS_DEREF_URB.root, 45_messages.md R410. -/
  | tsDerefUrbRoot (m : MsgFields)
  /-- TS_SPAWN_CHILD.root, 45_messages.md R404. -/
  | tsSpawnChildRoot (m : MsgFields)
  /-- TS_DEREF_URB.child, 45_messages.md R414. -/
  | tsDerefUrbChild (m : MsgFields)
  /-- TS_SPAWN_CHILD.child, 45_messages.md R405. -/
  | tsSpawnChildChild (m : MsgFields)
  /-- TS_DEREF_NOURB.root, 45_messages.md R411. -/
  | tsDerefNourbRoot (m : MsgFields)
  /-- TS_SPAWN_ROOT.root, 45_messages.md R406. -/
  | tsSpawnRootRoot (m : MsgFields)
  /-- TS_DEREF_NOURB.child, 45_messages.md R415. -/
  | tsDerefNourbChild (m : MsgFields)
  /-- TS_SPAWN_ROOT.child, 45_messages.md R407. -/
  | tsSpawnRootChild (m : MsgFields)
deriving DecidableEq, Repr

/-! ### The bits as they travel -/

/-- A SEND to the Thread Spawner as it travels: descriptor bits 19:0, EOT, and the one payload register M0
(30_encoding.md R120, R135, R136). -/
structure SendMsg where
  desc : BitVec 20
  eot  : Bool
  m0   : Reg
deriving DecidableEq, Repr

/-- The two encodings of 30_encoding.md R120. -/
inductive Packet where
  | command (dwords : List DWord)
  | message (m : SendMsg)
deriving DecidableEq, Repr

end Sys2Proof
end

