-- ==== Sys2Proof/WellFormed.lean ====
section
/-! DEFINITION. WellFormed.lean: which terms stand for an encoding of legal length (30_encoding.md R123, R124).
The ranges of the other operands depend on the state or are named refusals of the meanings; they are checked there. -/

namespace Sys2Proof

/-- The DWord Length a command with so many inline DWords has: total length minus 2 (30_encoding.md R121). -/
def lengthField (totalDWords : Nat) : BitVec 16 := BitVec.ofNat 16 (totalDWords - 2)

/-- The most inline DWords of MEDIA_OBJECT and MEDIA_OBJECT_WALKER: 63 registers (30_encoding.md R124). -/
def maxInlineDWords : Nat := 504

/-- The inline DWords of MEDIA_OBJECT_PRT, always 12 (43_primitive_commands.md R310). -/
def prtInlineDWords : Nat := 12

/-- The length of a command is legal for its opcode (30_encoding.md R124). Every message is well formed: a message has
one register of payload, and every value of its fields has an encoding. -/
def Instr.wellFormed : Instr → Bool
  | .mediaVfeState c => c.dwordLength == lengthField 8
  | .mediaCurbeLoad c => c.dwordLength == lengthField 4
  | .mediaInterfaceDescriptorLoad c => c.dwordLength == lengthField 4
  | .mediaGatewayState c => c.dwordLength == lengthField 2
  | .mediaStateFlush c => c.dwordLength == lengthField 2
  | .mediaObject c =>
      decide (c.inlineData.length ≤ maxInlineDWords) && c.dwordLength == lengthField (6 + c.inlineData.length)
  | .mediaObjectPrt c =>
      decide (c.inlineData.length = prtInlineDWords) && c.dwordLength == lengthField 16
  | .mediaObjectWalker c =>
      decide (c.inlineData.length ≤ maxInlineDWords) && c.dwordLength == lengthField (17 + c.inlineData.length)
  | .tsDerefUrbRoot _ => true
  | .tsSpawnChildRoot _ => true
  | .tsDerefUrbChild _ => true
  | .tsSpawnChildChild _ => true
  | .tsDerefNourbRoot _ => true
  | .tsSpawnRootRoot _ => true
  | .tsDerefNourbChild _ => true
  | .tsSpawnRootChild _ => true

/-- The instruction is a media command, and not a message (00_scope.md R3). -/
def Instr.isCommand : Instr → Bool
  | .mediaVfeState _ => true
  | .mediaCurbeLoad _ => true
  | .mediaInterfaceDescriptorLoad _ => true
  | .mediaGatewayState _ => true
  | .mediaStateFlush _ => true
  | .mediaObject _ => true
  | .mediaObjectPrt _ => true
  | .mediaObjectWalker _ => true
  | .tsDerefUrbRoot _ => false
  | .tsSpawnChildRoot _ => false
  | .tsDerefUrbChild _ => false
  | .tsSpawnChildChild _ => false
  | .tsDerefNourbRoot _ => false
  | .tsSpawnRootRoot _ => false
  | .tsDerefNourbChild _ => false
  | .tsSpawnRootChild _ => false

end Sys2Proof
end

