-- ==== Sys2Proof/Decode.lean ====
section
/-! DEFINITION. Decode.lean: bits to instructions and back (30_encoding.md R120 to R138).
Fields are pulled out here, once. A field marked MBZ that is not zero is rejected (93_implementation_defined.md U1); a
field marked Reserved without MBZ is not looked at and is encoded as 0 (U2); a field marked Ignored is not looked at
(U3). -/

namespace Sys2Proof

/-! ### Bit fields and registers -/

/-- The `len` bits of a DWord from bit `lo` up (00_scope.md R9). -/
def bits (w : DWord) (lo len : Nat) : BitVec len := w.extractLsb' lo len

/-- One bit of a DWord as a flag. -/
def flag (w : DWord) (i : Nat) : Bool := w.getLsbD i

/-- A field marked MBZ holds zero. -/
def mbz (w : DWord) (lo len : Nat) : Bool := bits w lo len == 0

/-- DWord `d` of a register, `d = 0` the least significant (00_scope.md R12). -/
def Reg.dword (r : Reg) (d : Nat) : DWord := r.extractLsb' (32 * d) 32

/-- A register from its DWords, `f 0` the least significant. -/
def Reg.ofDWords (f : Nat → DWord) : Reg :=
  f 7 ++ f 6 ++ f 5 ++ f 4 ++ f 3 ++ f 2 ++ f 1 ++ f 0

/-- A register whose DWords are a list's first eight, zero where the list ends (45_messages.md R392). -/
def Reg.ofList (l : List DWord) : Reg := Reg.ofDWords (fun d => l.getD d 0)

/-- DWord `n` of a command. -/
def dw (c : List DWord) (n : Nat) : DWord := c.getD n 0

/-! ### Decoding a command -/

/-- Why a sequence of DWords or a message is no instruction. -/
inductive Reject where
  /-- Command Type is not 3 or Pipeline is not 2: a command of another unit (30_encoding.md R138 item 2). -/
  | notMediaCommand
  /-- A media header that 30_encoding.md R123 does not list (R138 item 1). -/
  | undefinedCommand
  /-- A field marked MBZ is not zero (93_implementation_defined.md U1). -/
  | reservedBits
  /-- The Command Streamer has not delivered all DWords of the command yet. -/
  | truncated
deriving DecidableEq, Repr

/-- An instruction whose MBZ fields are all zero, or a rejection. -/
def whenZero (zero : Bool) (i : Instr) : Except Reject Instr :=
  if zero then .ok i else .error .reservedBits

/-- A pair of fields, Y in the upper half-word and X in the lower (43_primitive_commands.md R320). -/
def fieldXY (w : DWord) (width : Nat) : FieldXY width := ⟨bits w 0 width, bits w 16 width⟩

/-- Scoreboard deltas `n .. n+3` are the bytes of one DWord, Y in the high nibble (30_encoding.md R125). -/
def deltaOf (w : DWord) (n : Nat) : ScoreboardDelta := ⟨bits w (8 * n) 4, bits w (8 * n + 4) 4⟩

/-- The fields of MEDIA_VFE_STATE (30_encoding.md R125). -/
def vfeRecordOf (c : List DWord) : VfeRecord where
  scratchSpaceBasePointer := bits (dw c 1) 10 22
  stackSize := bits (dw c 1) 4 4
  perThreadScratchSpace := bits (dw c 1) 0 4
  maximumNumberOfThreads := bits (dw c 2) 16 16
  numberOfUrbEntries := bits (dw c 2) 8 8
  resetGatewayTimer := flag (dw c 2) 7
  bypassGatewayControl := flag (dw c 2) 6
  fastPreempt := flag (dw c 2) 5
  urbEntryAllocationSize := bits (dw c 4) 16 16
  curbeAllocationSize := bits (dw c 4) 0 16
  scoreboardEnable := flag (dw c 5) 31
  scoreboardType := flag (dw c 5) 30
  scoreboardMask := bits (dw c 5) 0 8
  deltas := #v[deltaOf (dw c 6) 0, deltaOf (dw c 6) 1, deltaOf (dw c 6) 2, deltaOf (dw c 6) 3,
               deltaOf (dw c 7) 0, deltaOf (dw c 7) 1, deltaOf (dw c 7) 2, deltaOf (dw c 7) 3]

/-- MEDIA_VFE_STATE (30_encoding.md R125). -/
def decodeMediaVfeState (c : List DWord) : Except Reject Instr :=
  whenZero (mbz (dw c 1) 8 2 && mbz (dw c 2) 2 3 && mbz (dw c 3) 0 8 && mbz (dw c 5) 8 22)
    (.mediaVfeState { dwordLength := bits (dw c 0) 0 16, fields := vfeRecordOf c })

/-- MEDIA_CURBE_LOAD (30_encoding.md R126). -/
def decodeMediaCurbeLoad (c : List DWord) : Except Reject Instr :=
  whenZero (mbz (dw c 1) 0 32 && mbz (dw c 2) 17 15)
    (.mediaCurbeLoad
      { dwordLength := bits (dw c 0) 0 16, totalLength := bits (dw c 2) 0 17, startAddress := dw c 3 })

/-- MEDIA_INTERFACE_DESCRIPTOR_LOAD (30_encoding.md R127). -/
def decodeMediaInterfaceDescriptorLoad (c : List DWord) : Except Reject Instr :=
  whenZero (mbz (dw c 1) 0 32 && mbz (dw c 2) 17 15)
    (.mediaInterfaceDescriptorLoad
      { dwordLength := bits (dw c 0) 0 16, totalLength := bits (dw c 2) 0 17, startAddress := dw c 3 })

/-- MEDIA_GATEWAY_STATE (30_encoding.md R128). -/
def decodeMediaGatewayState (c : List DWord) : Except Reject Instr :=
  whenZero (mbz (dw c 1) 24 8)
    (.mediaGatewayState
      { dwordLength := bits (dw c 0) 0 16, barrierId := bits (dw c 1) 16 8, byte := bits (dw c 1) 8 8
        threadCount := bits (dw c 1) 0 8 })

/-- MEDIA_STATE_FLUSH (30_encoding.md R129). -/
def decodeMediaStateFlush (c : List DWord) : Except Reject Instr :=
  whenZero (mbz (dw c 1) 24 8)
    (.mediaStateFlush
      { dwordLength := bits (dw c 0) 0 16, threadCountWaterMark := bits (dw c 1) 16 8
        barrierMask := bits (dw c 1) 0 16 })

/-- MEDIA_OBJECT (30_encoding.md R130). Bits 31:29 of DWord 3 are MBZ only where the field is read; the meaning looks at
them (43_primitive_commands.md R304). -/
def decodeMediaObject (c : List DWord) : Except Reject Instr :=
  whenZero (mbz (dw c 1) 6 2 && mbz (dw c 2) 25 6 && mbz (dw c 2) 22 2 && mbz (dw c 2) 20 1 && mbz (dw c 4) 25 7
      && mbz (dw c 4) 9 7 && mbz (dw c 5) 20 12 && mbz (dw c 5) 8 8)
    (.mediaObject
      { dwordLength := bits (dw c 0) 0 16, interfaceDescriptorOffset := bits (dw c 1) 0 6
        childrenPresent := flag (dw c 2) 31, threadSync := flag (dw c 2) 24, useScoreboard := flag (dw c 2) 21
        halfSlice := bits (dw c 2) 17 2, indirectDataLength := bits (dw c 2) 0 17
        indirectDataStartAddress := dw c 3
        scoreboardX := bits (dw c 4) 0 9, scoreboardY := bits (dw c 4) 16 9
        scoreboardColor := bits (dw c 5) 16 4, scoreboardMask := bits (dw c 5) 0 8
        inlineData := c.drop 6 })

/-- MEDIA_OBJECT_PRT (30_encoding.md R131); DW2[21:0] and DW3 are MBZ (43_primitive_commands.md R315). -/
def decodeMediaObjectPrt (c : List DWord) : Except Reject Instr :=
  whenZero (mbz (dw c 1) 6 26 && mbz (dw c 2) 24 7 && mbz (dw c 2) 0 22 && mbz (dw c 3) 0 32)
    (.mediaObjectPrt
      { dwordLength := bits (dw c 0) 0 16, interfaceDescriptorOffset := bits (dw c 1) 0 6
        childrenPresent := flag (dw c 2) 31, fenceNeeded := flag (dw c 2) 23, fenceType := flag (dw c 2) 22
        inlineData := c.drop 4 })

/-- The MBZ fields of MEDIA_OBJECT_WALKER's parameters, DWords 6 to 16 (30_encoding.md R132). -/
def walkerMbz (c : List DWord) : Bool :=
  mbz (dw c 6) 28 1 && mbz (dw c 6) 21 3 && mbz (dw c 6) 14 2 && mbz (dw c 6) 10 2 && mbz (dw c 6) 0 8
    && mbz (dw c 7) 26 6 && mbz (dw c 7) 10 6
    && [8, 9, 10, 13].all (fun n => mbz (dw c n) 25 7 && mbz (dw c n) 9 7)
    && [11, 12, 14, 15, 16].all (fun n => mbz (dw c n) 26 6 && mbz (dw c n) 10 6)

/-- The walker parameters (30_encoding.md R132). -/
def walkerParamsOf (c : List DWord) : WalkerParams where
  dualMode := flag (dw c 6) 31
  repel := flag (dw c 6) 30
  colorCountMinusOne := bits (dw c 6) 24 4
  middleLoopExtraSteps := bits (dw c 6) 16 5
  localMidLoopUnit := ⟨bits (dw c 6) 8 2, bits (dw c 6) 12 2⟩
  globalLoopExecCount := bits (dw c 7) 16 10
  localLoopExecCount := bits (dw c 7) 0 10
  blockResolution := fieldXY (dw c 8) 9
  localStart := fieldXY (dw c 9) 9
  localEnd := fieldXY (dw c 10) 9
  localOuterLoopStride := fieldXY (dw c 11) 10
  localInnerLoopUnit := fieldXY (dw c 12) 10
  globalResolution := fieldXY (dw c 13) 9
  globalStart := fieldXY (dw c 14) 10
  globalOuterLoopStride := fieldXY (dw c 15) 10
  globalInnerLoopUnit := fieldXY (dw c 16) 10

/-- MEDIA_OBJECT_WALKER (30_encoding.md R132). -/
def decodeMediaObjectWalker (c : List DWord) : Except Reject Instr :=
  whenZero (mbz (dw c 1) 6 2 && mbz (dw c 2) 25 6 && mbz (dw c 2) 22 2 && mbz (dw c 2) 17 4 && mbz (dw c 4) 0 32
      && mbz (dw c 5) 8 24 && walkerMbz c)
    (.mediaObjectWalker
      { dwordLength := bits (dw c 0) 0 16, interfaceDescriptorOffset := bits (dw c 1) 0 6
        childrenPresent := flag (dw c 2) 31, threadSync := flag (dw c 2) 24, useScoreboard := flag (dw c 2) 21
        indirectDataLength := bits (dw c 2) 0 17, scoreboardMask := bits (dw c 5) 0 8
        walk := walkerParamsOf c, inlineData := c.drop 17 })

/-- The instruction of one command, all of whose DWords are given: DWord 0 bits 31:16 select it
(30_encoding.md R121, R123). -/
def decodeBody (c : List DWord) : Except Reject Instr :=
  let header := bits (dw c 0) 16 16
  if header = 0x7000#16 then decodeMediaVfeState c
  else if header = 0x7001#16 then decodeMediaCurbeLoad c
  else if header = 0x7002#16 then decodeMediaInterfaceDescriptorLoad c
  else if header = 0x7003#16 then decodeMediaGatewayState c
  else if header = 0x7004#16 then decodeMediaStateFlush c
  else if header = 0x7100#16 then decodeMediaObject c
  else if header = 0x7102#16 then decodeMediaObjectPrt c
  else if header = 0x7103#16 then decodeMediaObjectWalker c
  else if bits (dw c 0) 27 5 = 0b01110#5 then .error .undefinedCommand
  else .error .notMediaCommand

/-- How many DWords a command occupies, from its DWord 0 alone (30_encoding.md R122). -/
def commandDWords (dw0 : DWord) : Nat := (bits dw0 0 16).toNat + 2

/-- The total length is legal for the header (30_encoding.md R123, R124). -/
def legalTotal (header : BitVec 16) (total : Nat) : Bool :=
  if header = 0x7000#16 then total == 8
  else if header = 0x7001#16 then total == 4
  else if header = 0x7002#16 then total == 4
  else if header = 0x7003#16 then total == 2
  else if header = 0x7004#16 then total == 2
  else if header = 0x7100#16 then decide (6 ≤ total) && decide (total ≤ 6 + maxInlineDWords)
  else if header = 0x7102#16 then total == 16
  else if header = 0x7103#16 then decide (17 ≤ total) && decide (total ≤ 17 + maxInlineDWords)
  else false

/-- Decode the command at the front of a sequence of DWords; also the DWords after it. A command of legal length that
is not all there yet is `truncated`; a command of illegal length is decoded from what is there, as an instruction that
is not well formed. -/
def decodeCommand (ds : List DWord) : Except Reject (Instr × List DWord) :=
  if ds.isEmpty then .error .truncated
  else if decide (ds.length < commandDWords (dw ds 0)) && legalTotal (bits (dw ds 0) 16 16) (commandDWords (dw ds 0))
  then .error .truncated
  else
    match decodeBody (ds.take (commandDWords (dw ds 0))) with
    | .ok i => .ok (i, ds.drop (commandDWords (dw ds 0)))
    | .error r => .error r

/-! ### Decoding a message -/

/-- The fields of M0 (30_encoding.md R136). -/
def msgFieldsOf (m : SendMsg) : MsgFields where
  eot := m.eot
  handle := bits (m.m0.dword 0) 0 16
  offset := bits (m.m0.dword 4) 0 10
  length := bits (m.m0.dword 4) 10 6
  interfaceDescriptorOffset := bits (m.m0.dword 2) 4 6
  color := bits (m.m0.dword 2) 0 4
  barrierId := bits (m.m0.dword 2) 24 4
  fftid := bits (m.m0.dword 5) 0 8

/-- The MBZ bits of a message: descriptor bits 19:5 and 3:2, and M0.0[27:16] (30_encoding.md R135, R136). -/
def messageMbz (m : SendMsg) : Bool :=
  m.desc.extractLsb' 5 15 == 0 && m.desc.extractLsb' 2 2 == 0 && mbz (m.m0.dword 0) 16 12

/-- Resource Select, Requester Type and Opcode select the form (30_encoding.md R135). -/
def messageForm (resourceSelect requesterChild spawn : Bool) (f : MsgFields) : Instr :=
  match resourceSelect, requesterChild, spawn with
  | false, false, false => .tsDerefUrbRoot f
  | false, false, true => .tsSpawnChildRoot f
  | false, true, false => .tsDerefUrbChild f
  | false, true, true => .tsSpawnChildChild f
  | true, false, false => .tsDerefNourbRoot f
  | true, false, true => .tsSpawnRootRoot f
  | true, true, false => .tsDerefNourbChild f
  | true, true, true => .tsSpawnRootChild f

/-- Decode a thread spawn message (30_encoding.md R135, R136). -/
def decodeMessage (m : SendMsg) : Except Reject Instr :=
  whenZero (messageMbz m)
    (messageForm (m.desc.getLsbD 4) (m.desc.getLsbD 1) (m.desc.getLsbD 0) (msgFieldsOf m))

/-- Decode either encoding. -/
def decode : Packet → Except Reject Instr
  | .command ds =>
    match decodeCommand ds with
    | .ok (i, _) => .ok i
    | .error r => .error r
  | .message m => decodeMessage m

/-! ### Encoding -/

/-- A flag as a field of one bit. -/
def bit (b : Bool) : BitVec 1 := BitVec.ofBool b

/-- DWord 0: header and DWord Length (30_encoding.md R121). -/
def headerDWord (header length : BitVec 16) : DWord := header ++ length

/-- Y in the upper half-word, X in the lower, U9 (30_encoding.md R132). -/
def encodeXY9 (p : FieldXY 9) : DWord := 0#7 ++ p.y ++ 0#7 ++ p.x

/-- Y in the upper half-word, X in the lower, S9 (30_encoding.md R132). -/
def encodeXY10 (p : FieldXY 10) : DWord := 0#6 ++ p.y ++ 0#6 ++ p.x

/-- Four scoreboard deltas in one DWord (30_encoding.md R125). -/
def encodeDeltas (d0 d1 d2 d3 : ScoreboardDelta) : DWord :=
  d3.y ++ d3.x ++ d2.y ++ d2.x ++ d1.y ++ d1.x ++ d0.y ++ d0.x

/-- DWords 1 to 7 of MEDIA_VFE_STATE (30_encoding.md R125). -/
def encodeVfeRecord (v : VfeRecord) : List DWord :=
  [v.scratchSpaceBasePointer ++ 0#2 ++ v.stackSize ++ v.perThreadScratchSpace,
   v.maximumNumberOfThreads ++ v.numberOfUrbEntries ++ bit v.resetGatewayTimer ++ bit v.bypassGatewayControl
     ++ bit v.fastPreempt ++ 0#5,
   0#32,
   v.urbEntryAllocationSize ++ v.curbeAllocationSize,
   bit v.scoreboardEnable ++ bit v.scoreboardType ++ 0#22 ++ v.scoreboardMask,
   encodeDeltas v.deltas[0] v.deltas[1] v.deltas[2] v.deltas[3],
   encodeDeltas v.deltas[4] v.deltas[5] v.deltas[6] v.deltas[7]]

/-- DWords 6 to 16 of MEDIA_OBJECT_WALKER (30_encoding.md R132). -/
def encodeWalkerParams (w : WalkerParams) : List DWord :=
  [bit w.dualMode ++ bit w.repel ++ 0#2 ++ w.colorCountMinusOne ++ 0#3 ++ w.middleLoopExtraSteps ++ 0#2
     ++ w.localMidLoopUnit.y ++ 0#2 ++ w.localMidLoopUnit.x ++ 0#8,
   0#6 ++ w.globalLoopExecCount ++ 0#6 ++ w.localLoopExecCount,
   encodeXY9 w.blockResolution, encodeXY9 w.localStart, encodeXY9 w.localEnd,
   encodeXY10 w.localOuterLoopStride, encodeXY10 w.localInnerLoopUnit,
   encodeXY9 w.globalResolution,
   encodeXY10 w.globalStart, encodeXY10 w.globalOuterLoopStride, encodeXY10 w.globalInnerLoopUnit]

/-- M0 of a message (30_encoding.md R136). -/
def encodeM0 (f : MsgFields) : Reg :=
  Reg.ofList
    [0#16 ++ f.handle,
     0#32,
     0#4 ++ f.barrierId ++ 0#8 ++ 0#6 ++ f.interfaceDescriptorOffset ++ f.color,
     0#32,
     0#16 ++ f.length ++ f.offset,
     0#24 ++ f.fftid]

/-- A message from its descriptor and fields. -/
def encodeMessage (desc : BitVec 20) (f : MsgFields) : Packet :=
  .message { desc := desc, eot := f.eot, m0 := encodeM0 f }

/-- The words of a well-formed instruction (30_encoding.md R121 to R136). -/
def encode : Instr → Packet
  | .mediaVfeState c => .command (headerDWord 0x7000#16 c.dwordLength :: encodeVfeRecord c.fields)
  | .mediaCurbeLoad c =>
    .command [headerDWord 0x7001#16 c.dwordLength, 0#32, 0#15 ++ c.totalLength, c.startAddress]
  | .mediaInterfaceDescriptorLoad c =>
    .command [headerDWord 0x7002#16 c.dwordLength, 0#32, 0#15 ++ c.totalLength, c.startAddress]
  | .mediaGatewayState c =>
    .command [headerDWord 0x7003#16 c.dwordLength, 0#8 ++ c.barrierId ++ c.byte ++ c.threadCount]
  | .mediaStateFlush c =>
    .command [headerDWord 0x7004#16 c.dwordLength, 0#8 ++ c.threadCountWaterMark ++ c.barrierMask]
  | .mediaObject c =>
    .command
      ([headerDWord 0x7100#16 c.dwordLength,
        0#26 ++ c.interfaceDescriptorOffset,
        bit c.childrenPresent ++ 0#6 ++ bit c.threadSync ++ 0#2 ++ bit c.useScoreboard ++ 0#2 ++ c.halfSlice
          ++ c.indirectDataLength,
        c.indirectDataStartAddress,
        0#7 ++ c.scoreboardY ++ 0#7 ++ c.scoreboardX,
        0#12 ++ c.scoreboardColor ++ 0#8 ++ c.scoreboardMask] ++ c.inlineData)
  | .mediaObjectPrt c =>
    .command
      ([headerDWord 0x7102#16 c.dwordLength,
        0#26 ++ c.interfaceDescriptorOffset,
        bit c.childrenPresent ++ 0#7 ++ bit c.fenceNeeded ++ bit c.fenceType ++ 0#22,
        0#32] ++ c.inlineData)
  | .mediaObjectWalker c =>
    .command
      ([headerDWord 0x7103#16 c.dwordLength,
        0#26 ++ c.interfaceDescriptorOffset,
        bit c.childrenPresent ++ 0#6 ++ bit c.threadSync ++ 0#2 ++ bit c.useScoreboard ++ 0#4
          ++ c.indirectDataLength,
        0#32,
        0#32,
        0#24 ++ c.scoreboardMask] ++ encodeWalkerParams c.walk ++ c.inlineData)
  | .tsDerefUrbRoot f => encodeMessage 0x00000#20 f
  | .tsSpawnChildRoot f => encodeMessage 0x00001#20 f
  | .tsDerefUrbChild f => encodeMessage 0x00002#20 f
  | .tsSpawnChildChild f => encodeMessage 0x00003#20 f
  | .tsDerefNourbRoot f => encodeMessage 0x00010#20 f
  | .tsSpawnRootRoot f => encodeMessage 0x00011#20 f
  | .tsDerefNourbChild f => encodeMessage 0x00012#20 f
  | .tsSpawnRootChild f => encodeMessage 0x00013#20 f

/-! ### The table's words -/

/-- The longest command: MEDIA_OBJECT_WALKER with 504 inline DWords (30_encoding.md R123, R124). -/
def maxCommandDWords : Nat := 17 + maxInlineDWords

/-- An instruction whose bits are `w`, of which the table gives `nbits`: a command's DWord 0 and DWords of zeros after it
(its own count, at most the longest command's), or a message descriptor with M0 all zero. A word with Command Type 3 is
a command's; a message descriptor has only 20 bits. -/
def tablePacket (nbits w : Nat) : Packet :=
  let w := w % 2 ^ nbits
  let dw0 : DWord := BitVec.ofNat 32 w
  if bits dw0 29 3 = 3#3 then
    .command (dw0 :: List.replicate (min (commandDWords dw0) maxCommandDWords - 1) 0#32)
  else
    .message { desc := BitVec.ofNat 20 w, eot := false, m0 := 0#256 }

/-- The instruction the decoder reads from an instruction whose bits are `w`. -/
def decodeTableWord (nbits w : Nat) : Option Instr :=
  match decode (tablePacket nbits w) with
  | .ok i => some i
  | .error _ => none

end Sys2Proof
end

