-- ==== Sys2Proof/Config.lean ====
section
/-! DEFINITION. Config.lean: what an implementation fixes (00_scope.md R8): the quantities the model takes as arguments
(`Params`), those with one value on this device, and the free values: opaque constants of which nothing can be proved,
so that a claim holds whatever they are (93_implementation_defined.md, treatments "parameter" and "any value"). -/

namespace Sys2Proof.Config

/-! ### Parameters the model takes as arguments -/

/-- Where Floating Point Mode and Illegal Opcode Exception Enable stand in descriptor DWord 1: the three pairs that the
order of the fields and the reserved bits between them leave (42_state_commands.md R264 (b)). -/
inductive UpperModeBits where
  | mode15Opcode13
  | mode16Opcode13
  | mode16Opcode14
deriving DecidableEq, Repr, Inhabited

/-- The three bit positions of descriptor DWord 1 that the source lost, within R264 (b); Software Exception Enable is one
of the bits 1 to 9 (42_state_commands.md R264; log 30). -/
structure ModeBits where
  upper            : UpperModeBits
  /-- The bit of Software Exception Enable, less one. -/
  softwareLessOne  : Fin 9
deriving DecidableEq, Repr, Inhabited

/-- The three positions of this device: no default is defensible (92_eei_decisions.md, 91_not_in_source.md N19; log 30). -/
opaque modeBits : ModeBits

/-- What differs from one device to the next: arguments of the model (00_scope.md R8; log 10, 11,
30). -/
structure Params where
  /-- ROB_REGISTERS: 256-bit registers of the ROB (D3). -/
  robRegisters    : Nat
  /-- N_THREAD_SLOTS (D2). -/
  threadSlots     : Nat
  /-- GRF_REGISTERS of one thread (D4). -/
  grfRegisters    : Nat
  /-- TS_CHILD_QUEUE_DEPTH (D28). -/
  childQueueDepth : Nat
  /-- The three positions in INTERFACE_DESCRIPTOR_DATA DWord 1 (93_implementation_defined.md Part 1). -/
  modeBits        : ModeBits
  /-- BARRIER_OFFSET(d), R0.2[22:16], of the descriptors `d` that have another than the default 0 (D31). -/
  barrierOffsets  : List (Reg × BitVec 7)
deriving DecidableEq, Repr

/-- The defaults the spec gives them (00_scope.md R8; D2, D3, D4, D28, D31). -/
def defaults : Params where
  robRegisters := 1024
  threadSlots := 60
  grfRegisters := 128
  childQueueDepth := 8
  modeBits := modeBits
  barrierOffsets := []

/-! ### Quantities with one value on this device -/

/-- ROB_RESERVED_REGISTERS: the lowest ROB registers, which hold interface descriptors (00_scope.md R8). -/
def robReservedRegisters : Nat := 32

/-- MAX_THREAD_COUNT (00_scope.md R8). -/
def maxThreadCount : Nat := 60

/-- MAX_URB_ENTRIES (00_scope.md R8). -/
def maxUrbEntries : Nat := 64

/-- MAX_INTERFACE_DESCRIPTORS (00_scope.md R8). -/
def maxInterfaceDescriptors : Nat := 31

/-- NUM_BARRIERS (00_scope.md R8). -/
def numBarriers : Nat := 16

/-! ### Parameters without a value -/

/-- The depth of RootQ less one: 00_scope.md R8 gives TS_ROOT_QUEUE_DEPTH no value, any depth from 1 up (log 9). -/
opaque rootQueueSpare : Nat

/-- TS_ROOT_QUEUE_DEPTH. -/
def rootQueueDepth : Nat := rootQueueSpare + 1

/-- The walker's parameters as the values the rules use (30_encoding.md R137, 40_vfe_and_walker.md R176): what the walk
outside the class of R187 is a function of. A pair is X and Y. -/
structure WalkValues where
  dualMode              : Bool
  repel                 : Bool
  /-- Color Count Minus One, plus one. -/
  colorCount            : Nat
  middleLoopExtraSteps  : Nat
  /-- S1: each of X and Y is -2..1. -/
  localMidLoopUnit      : Int × Int
  globalLoopExecCount   : Nat
  localLoopExecCount    : Nat
  blockResolution       : Int × Int
  localStart            : Int × Int
  localEnd              : Int × Int
  localOuterLoopStride  : Int × Int
  localInnerLoopUnit    : Int × Int
  globalResolution      : Int × Int
  globalStart           : Int × Int
  globalOuterLoopStride : Int × Int
  globalInnerLoopUnit   : Int × Int
deriving DecidableEq, Repr

/-- The positions the walker visits, run by run of its innermost loop, outside the class of 40_vfe_and_walker.md R187
(R185; log 12). -/
opaque openWalk : WalkValues → List (List (Int × Int))

/-- Outside that class: whether each position is repeated color by color in a row, or the innermost loop is run once
per color (40_vfe_and_walker.md R188; log 12). -/
opaque openWalkColorsInARow : WalkValues → Bool

/-! ### Free values, applied to a counter of the state -/

/-- Which of a set of alternatives is taken: FFTID, scratch slot (41_thread_spawner.md R208, R209), which version of a
descriptor or constant a child sees (93_implementation_defined.md U7), and the target of an agent's turn (log 5, 6, 8). -/
opaque choice : Nat → Nat

/-- A CURBE register that no MEDIA_CURBE_LOAD wrote, as the `n`-th read of one sees it: each read has a number of its
own (93_implementation_defined.md U9; log 7). -/
opaque undefinedCurbe : Nat → Reg

/-- A register of the entry of a handle that the pool does not have, as the `n`-th read of one sees it (log 24). -/
opaque undefinedUrb : Nat → Reg

/-- A GRF register beyond the payload, by thread and register number (93_implementation_defined.md U13; log 23). -/
opaque undefinedGrf : Nat → Nat → Reg

/-- One component of a chroma motion vector of the half-pel case, from that of the quarter-pel case: the source gives no
formula for its rounding (44_macroblock_data_formats.md R371; log 46). -/
opaque halfPelChroma : Int → Int

end Sys2Proof.Config
end

