-- ==== Sys2Proof/Machine/State.lean ====
section
/-! DEFINITION. Machine/State.lean: every piece of state of INVENTORY.md, the faults and refusals, and the state after
reset (10_state.md R30 to R70, 70_reset_and_hazards.md R480). -/

namespace Sys2Proof.Machine

open Sys2Proof

/-! ### The Command Streamer's side (external) -/

/-- Pipeline selection (10_state.md R32). -/
inductive Pipeline where
  | threeD
  | media
deriving DecidableEq, Repr

/-- The base addresses and bounds of STATE_BASE_ADDRESS (10_state.md R33); their width is not in the source (log 25). -/
structure Bases where
  generalState   : Nat
  dynamicState   : Nat
  dynamicBound   : Nat
  surfaceState   : Nat
  indirectObject : Nat
  indirectBound  : Nat
  instruction    : Nat
deriving DecidableEq, Repr

/-- The commands of the Command Streamer that stand in the stream as external events (70_reset_and_hazards.md R484,
R491; log 33). -/
inductive CsCommand where
  /-- MI_FLUSH or PIPE_CONTROL. -/
  | flush
  /-- PIPELINE_SELECT. -/
  | selectPipeline (p : Pipeline)
  /-- STATE_BASE_ADDRESS. -/
  | setBases (b : Bases)
  /-- STATE_SIP. -/
  | setSip (address : Nat)
  /-- MI_ARB_ON_OFF. -/
  | arbitration (on : Bool)
deriving DecidableEq, Repr

/-- One item of the command stream. -/
inductive StreamItem where
  | dword (w : DWord)
  | external (c : CsCommand)
deriving DecidableEq, Repr

/-- What the Command Streamer presents to the pipeline. The part of the stream not taken yet is the command pointer
(10_state.md R66). -/
structure CommandStreamer where
  stream        : List StreamItem
  pipeline      : Pipeline
  bases         : Bases
  sip           : Nat
  arbitrationOn : Bool
deriving DecidableEq, Repr

/-! ### VFE -/

/-- One position of a walk, or the scoreboard position of an object (40_vfe_and_walker.md R189). -/
structure WalkPos where
  x     : BitVec 9
  y     : BitVec 9
  color : BitVec 4
deriving DecidableEq, Repr

/-- The control bits all threads of one primitive command share (40_vfe_and_walker.md R164). -/
structure RootControl where
  interfaceDescriptorOffset : BitVec 5
  childrenPresent : Bool
  threadSync      : Bool
  useScoreboard   : Bool
  halfSlice       : BitVec 2
  scoreboardMask  : BitVec 8
  isPrt           : Bool
  fenceNeeded     : Bool
  fenceType       : Bool
  /-- Thread Restart Enable: a dispatch again after context restore (45_messages.md R396). -/
  restart         : Bool
deriving DecidableEq, Repr

/-- A root thread request, as VFE puts it into RootQ (10_state.md R50, 40_vfe_and_walker.md R164). -/
structure RootReq where
  control     : RootControl
  position    : WalkPos
  handle      : BitVec 16
  payloadRegs : Nat
  scratchBase : BitVec 22
  scratchSize : BitVec 4
deriving DecidableEq, Repr

/-- A primitive command VFE is working on: what all its threads share, the positions still to come, and a request that
has its handle and payload and waits for room in RootQ (40_vfe_and_walker.md R164, R189). -/
structure Generation where
  control   : RootControl
  payload   : List Reg
  todo      : List WalkPos
  assembled : Option RootReq
deriving DecidableEq, Repr

/-- The command VFE has taken and not finished (40_vfe_and_walker.md R163, R171). -/
inductive VfeWork where
  | generate (g : Generation)
  /-- MEDIA_STATE_FLUSH, whose conditions do not hold yet (42_state_commands.md R284). -/
  | flush (waterMark : BitVec 8) (barrierMask : BitVec 16)
deriving DecidableEq, Repr

/-- The URB handle pool: handle `h` is the index `h`; the head is the next to be referenced (10_state.md R46, D24). -/
structure HandlePool where
  referenced : List Bool
  head       : Nat
deriving DecidableEq, Repr

/-- The Video Front End. -/
structure Vfe where
  record   : VfeRecord
  /-- A MEDIA_VFE_STATE has written the record (70_reset_and_hazards.md R480). -/
  loaded   : Bool
  pool     : HandlePool
  work     : Option VfeWork
  /-- The context's last MEDIA_OBJECT_PRT (10_state.md R56 (c)). -/
  lastPrt  : Option MediaObjectPrt
  /-- A primitive command has run since the last MI_FLUSH (70_reset_and_hazards.md R487, R492; log 28). -/
  primSinceFlush      : Bool
  /-- A primitive command has run since the last MI_FLUSH or MEDIA_STATE_FLUSH (70_reset_and_hazards.md R488). -/
  primSinceStateFlush : Bool
deriving DecidableEq, Repr

/-! ### The ROB -/

/-- The ROB (10_state.md R45) with the descriptor count `k` (R40) and the CURBE length `c` (R41). `regs` lists the
registers that do not hold zero, by rising number. -/
structure Rob where
  regs         : List (Nat × Reg)
  idtCount     : Nat
  curbeLength  : Nat
  /-- How many CURBE registers the last MEDIA_CURBE_LOAD since the last MEDIA_VFE_STATE defined (log 7). -/
  curbeDefined : Nat
deriving DecidableEq, Repr

/-! ### The Thread Spawner -/

/-- PRT fence (10_state.md R55). -/
inductive Fence where
  | none
  | rootQueue
  | vfeEntry
deriving DecidableEq, Repr

/-- An instance the scoreboard tracks or a thread depends on (10_state.md R57, 41_thread_spawner.md R231). -/
structure SbInstance where
  x     : Int
  y     : Int
  color : BitVec 4
deriving DecidableEq, Repr

/-- A run of registers of one handle's URB entry, as a spawn message names it (20_memory.md R84). -/
structure UrbRef where
  handle : BitVec 16
  offset : BitVec 10
  length : BitVec 6
deriving DecidableEq, Repr

/-- A request the non-stalling scoreboard has set aside, with the data of its spawn-root message if it is a synchronized
root (41_thread_spawner.md R232). -/
structure AsideReq where
  req   : RootReq
  extra : Option UrbRef
deriving DecidableEq, Repr

/-- What TS remembers of a dispatched root thread (41_thread_spawner.md R214). -/
structure Outstanding where
  fftid           : BitVec 8
  handle          : BitVec 16
  childrenPresent : Bool
  /-- Its one dereference by message has happened (93_implementation_defined.md U20). -/
  dereferenced    : Bool
  scratchSlot     : Nat
  entry           : Option SbInstance
  isPrt           : Bool
deriving DecidableEq, Repr

/-- The Thread Spawner (10_state.md R50 to R57). -/
structure Spawner where
  rootQ          : List RootReq
  aside          : List AsideReq
  childQ         : List SendMsg
  rootCount      : Nat
  fftids         : List (BitVec 8)
  /-- Scratch slots in use and their holders. -/
  scratch        : List (Nat × BitVec 8)
  outstanding    : List Outstanding
  tracking       : List SbInstance
  fence          : Fence
  preemptPending : Bool
  preemptSent    : Bool
deriving DecidableEq, Repr

/-! ### The Thread Dispatcher and the threads (external) -/

/-- The half-slice a thread runs on (00_scope.md R8). -/
inductive HalfSlice where
  | zero
  | one
deriving DecidableEq, Repr

/-- The enables loaded into the thread's CR0.1 at dispatch: Illegal Opcode into bit 12, MaskStack into bit 11, Software
into bit 13 (42_state_commands.md R266). -/
structure ExceptionEnables where
  illegalOpcode : Bool
  maskStack     : Bool
  software      : Bool
deriving DecidableEq, Repr

/-- What TS needs again when TD acknowledges a root request (41_thread_spawner.md R205). -/
structure RootAck where
  fftid           : BitVec 8
  handle          : BitVec 16
  childrenPresent : Bool
  isPrt           : Bool
  fenceNeeded     : Bool
  fenceType       : Bool
deriving DecidableEq, Repr

/-- The kind of a dispatch request. -/
inductive TdKind where
  | root (ack : RootAck)
  | child
deriving DecidableEq, Repr

/-- What the descriptor says of the thread's modes (42_state_commands.md R265, R266). -/
structure ThreadModes where
  floatingPointMode : Bool
  singleProgramFlow : Bool
  priority          : Bool
  exceptions        : ExceptionEnables
deriving DecidableEq, Repr

/-- A request to the Thread Dispatcher (41_thread_spawner.md R204). -/
structure TdReq where
  kind      : TdKind
  /-- Instruction offset bits 31:6. -/
  kernel    : BitVec 26
  modes     : ThreadModes
  halfSlice : BitVec 2
  /-- The GRF image. -/
  regs      : List Reg
deriving DecidableEq, Repr

/-- The kind of a running thread. -/
inductive ThreadKind where
  | root (fftid : BitVec 8) (isPrt : Bool)
  | child
deriving DecidableEq, Repr

/-- A thread on an EU, as far as the pipeline made it (10_state.md R65, R67, R68). -/
structure Thread where
  id        : Nat
  kind      : ThreadKind
  /-- The address of its first instruction (10_state.md R67). -/
  ip        : Nat
  /-- R0 and up; the registers beyond hold no defined value (10_state.md R65). -/
  regs      : List Reg
  modes     : ThreadModes
  halfSlice : HalfSlice
  /-- The message it is held at its SEND with (10_state.md R51). -/
  pending   : Option SendMsg
  /-- It has ended; its slot is not retired yet (45_messages.md R401). -/
  ended     : Bool
deriving DecidableEq, Repr

/-- The Thread Dispatcher and the thread slots (41_thread_spawner.md R204, 10_state.md R62). -/
structure Dispatcher where
  queue      : List TdReq
  threads    : List Thread
  freeSlots  : Nat
  nextThread : Nat
deriving DecidableEq, Repr

/-! ### The Message Gateway (external) -/

/-- One barrier state (10_state.md R60). -/
structure Barrier where
  byte        : BitVec 8
  threadCount : BitVec 8
deriving DecidableEq, Repr

/-- What the pipeline reads and writes of the Message Gateway (10_state.md R60, R61; 60_exceptions.md R462). -/
structure Gateway where
  barriers      : Vector Barrier 16
  relative      : Nat
  latchedGlobal : Nat
  globalTime    : Nat
  /-- Bit `b`: the Gateway reports barrier `b` clear (42_state_commands.md R286; log 17). -/
  reportedClear : BitVec 16
deriving DecidableEq, Repr

/-! ### Inputs and turns -/

/-- One thing that happens next: a turn of an agent, or an input from outside (log 5). -/
inductive Event where
  /-- The Command Streamer carries out the external command at the head of the stream. -/
  | csTurn
  | vfeTurn
  | tsTurn
  /-- TS looks at one of the requests it has set aside. -/
  | tsAside (index : Nat)
  /-- TS broadcasts the preempt signal if it is due (60_exceptions.md R456). -/
  | tsPreempt
  /-- TD serves its next request with a slot of this half-slice. -/
  | tdTurn (half : HalfSlice)
  /-- The message bus accepts a thread's SEND into ChildQ (41_thread_spawner.md R203). -/
  | busAccept (thread : Nat)
  /-- An ended thread's slot is retired (45_messages.md R401). -/
  | threadRetire (thread : Nat)
  /-- The Command Streamer has more of the stream. -/
  | deliver (items : List StreamItem)
  /-- A thread comes to a SEND to TS. -/
  | threadSend (thread : Nat) (m : SendMsg)
  /-- A thread ends with a Gateway message carrying EOT (45_messages.md R418). -/
  | gatewayEot (thread : Nat)
  /-- A thread writes a register of a URB entry (45_messages.md R391). -/
  | urbWrite (handle : BitVec 16) (offset : Nat) (value : Reg)
  /-- The host or a thread writes graphics memory (10_state.md R34). -/
  | memWrite (address : Nat) (bytes : List Byte)
  /-- The Gateway's relative timer and its global time move on, each by as much as it may (10_state.md R61; log 18). -/
  | gatewayTick (relative global : Nat)
  | barrierReport (clear : BitVec 16)
  /-- The context-switch interrupt (60_exceptions.md R456). -/
  | contextSwitch
  /-- The switch completes; the next context's stream (60_exceptions.md R456, R460). -/
  | switchComplete (stream : List StreamItem)
  /-- ContextRestore with the saved command (60_exceptions.md R459). -/
  | contextRestore (prt : MediaObjectPrt)
deriving DecidableEq, Repr

/-! ### The machine -/

/-- The state of the machine. -/
structure State where
  /-- The device's sizes and open bit positions: arguments of the model, which no step changes (00_scope.md R8; log 10,
  30). -/
  params    : Config.Params
  cs        : CommandStreamer
  vfe       : Vfe
  rob       : Rob
  /-- The older contents a child dispatch may still see (93_implementation_defined.md U7; log 8). -/
  stale     : List Rob
  ts        : Spawner
  td        : Dispatcher
  gateway   : Gateway
  /-- Graphics memory, canonical: rising addresses, no byte that is zero (10_state.md R34; log 3). -/
  mem       : List Host.Cell
  /-- What happens next, first to come first; empty: a free value says which agent moves (log 5). -/
  agenda    : List Event
  /-- The counter the free values are applied to (log 6). -/
  freeCount : Nat
deriving DecidableEq, Repr

/-- A fault: none. The pipeline has no fault mechanism, so nothing raises one (60_exceptions.md R440,
93_implementation_defined.md Part 1; log 40). Safe: no step ends in a fault. -/
inductive Fault where
deriving DecidableEq, Repr

/-- Why the step relation has no transition (93_implementation_defined.md Part 1, "refuse"). Every constructor is safe:
the model stops where the spec's own treatment says a model refuses; no theorem speaks of what comes after. -/
inductive Refusal where
  /-- An instruction without a meaning; raised by Dispatch. Safe. -/
  | notModelled (mnemonic : String)
  /-- A media command while the 3D pipeline is selected (70_reset_and_hazards.md R495); raised by every command. Safe. -/
  | threeDSelected
  /-- A media header the opcode map does not list (30_encoding.md R138 item 1); raised by VFE's turn. Safe. -/
  | undefinedCommand
  /-- A command of another unit among the DWords (30_encoding.md R138 item 2); raised by VFE's turn. Safe. -/
  | notMediaCommand
  /-- An MBZ field that is not zero (93_implementation_defined.md U1); raised by VFE's turn, by the acceptance of a
  message, by the descriptor load. Safe. -/
  | reservedBits
  /-- DWord Length not legal for the opcode (30_encoding.md R124); raised by every command. Safe. -/
  | illegalLength
  /-- A field outside its range (93_implementation_defined.md U4, U8); raised by commands and messages. Safe. -/
  | fieldOutOfRange
  /-- A length or start address that is no multiple of 32 (20_memory.md R91); raised by the three loads. Safe. -/
  | misaligned
  /-- A load that passes the upper bound of its space (20_memory.md R95); raised by the three loads. Safe. -/
  | beyondBound
  /-- The ROB budget does not hold (42_state_commands.md R252); raised by MEDIA_VFE_STATE. Safe. -/
  | robBudget
  /-- More CURBE data than CURBE Allocation Size (42_state_commands.md R256); raised by MEDIA_CURBE_LOAD. Safe. -/
  | curbeTooLong
  /-- A command without the flush it needs (93_implementation_defined.md U16, U18); raised by the state commands,
  MEDIA_OBJECT_PRT and the Command Streamer's commands. Safe. -/
  | flushMissing
  /-- MEDIA_VFE_STATE while handles are in use or requests are queued (93_implementation_defined.md U16). Safe. -/
  | handlesInUse
  /-- A command that needs the VFE state record before any MEDIA_VFE_STATE (70_reset_and_hazards.md R480). Safe. -/
  | vfeStateUnset
  /-- A descriptor that the last load did not load (93_implementation_defined.md U10); raised by the primitive commands
  and the spawn-child messages. Safe. -/
  | descriptorNotLoaded
  /-- Half-Slice Destination Select 11 (93_implementation_defined.md U8); raised by MEDIA_OBJECT. Safe. -/
  | halfSliceReserved
  /-- A payload of 112 registers or more (43_primitive_commands.md R308); raised by MEDIA_OBJECT. Safe. -/
  | payloadTooLong
  /-- A payload longer than the URB entry (93_implementation_defined.md U12); raised by the primitive commands. Safe. -/
  | payloadBeyondEntry
  /-- Indirect data on a walker (43_primitive_commands.md R322); raised by MEDIA_OBJECT_WALKER. Safe. -/
  | indirectOnWalker
  /-- Repel with Dual Mode (93_implementation_defined.md U19); raised by MEDIA_OBJECT_WALKER. Safe. -/
  | repelWithDual
  /-- A walk position outside 0..511 (40_vfe_and_walker.md R189); raised by MEDIA_OBJECT_WALKER. Safe. -/
  | walkOutOfRange
  /-- A spawn message with EOT (93_implementation_defined.md U17); raised by the spawn messages. Safe. -/
  | spawnWithEot
  /-- A message whose URB registers pass the end of the entry (93_implementation_defined.md U12). Safe. -/
  | urbEntryOverrun
  /-- A root's dereference message whose FFTID is not outstanding (45_messages.md R410, R411). Safe. -/
  | unknownFftid
  /-- TS_DEREF_URB.root of a handle the thread does not hold (45_messages.md R410). Safe. -/
  | handleNotHeld
  /-- A second dereference of one handle (93_implementation_defined.md U20). Safe. -/
  | secondDereference
  /-- Constant registers beyond the ROB (42_state_commands.md R268); raised at dispatch. Safe. -/
  | constantsOutOfRange
  /-- A register image longer than the GRF (93_implementation_defined.md U13); raised at dispatch. Safe. -/
  | grfOverflow
  /-- A root thread that ends through the Message Gateway (45_messages.md R418). Safe. -/
  | gatewayEotByRoot
deriving DecidableEq, Repr

/-- The outcome of a step of this machine. -/
abbrev Result := Host.Outcome State Fault Refusal

/-! ### Reset -/

/-- A VFE record of zeros: the model's choice, the spec gives it no value before MEDIA_VFE_STATE
(70_reset_and_hazards.md R480; log 1). -/
def zeroRecord : VfeRecord where
  scratchSpaceBasePointer := 0
  stackSize := 0
  perThreadScratchSpace := 0
  maximumNumberOfThreads := 0
  numberOfUrbEntries := 0
  resetGatewayTimer := false
  bypassGatewayControl := false
  fastPreempt := false
  urbEntryAllocationSize := 0
  curbeAllocationSize := 0
  scoreboardEnable := false
  scoreboardType := false
  scoreboardMask := 0
  deltas := Vector.replicate 8 ⟨0, 0⟩

/-- The machine right after reset, on a device of these sizes: the model start state of 70_reset_and_hazards.md R480.
What that rule leaves unspecified holds the values of log 1. -/
def State.resetWith (p : Config.Params) : State where
  params := p
  cs :=
    { stream := [], pipeline := .media, sip := 0, arbitrationOn := true
      bases :=
        { generalState := 0, dynamicState := 0, dynamicBound := 0, surfaceState := 0, indirectObject := 0
          indirectBound := 0, instruction := 0 } }
  vfe :=
    { record := zeroRecord, loaded := false, pool := ⟨[], 0⟩, work := none, lastPrt := none
      primSinceFlush := false, primSinceStateFlush := false }
  rob := { regs := [], idtCount := 0, curbeLength := 0, curbeDefined := 0 }
  stale := []
  ts :=
    { rootQ := [], aside := [], childQ := [], rootCount := 0, fftids := [], scratch := [], outstanding := []
      tracking := [], fence := .none, preemptPending := false, preemptSent := false }
  td := { queue := [], threads := [], freeSlots := p.threadSlots, nextThread := 0 }
  gateway :=
    { barriers := Vector.replicate 16 ⟨0, 0⟩, relative := 0, latchedGlobal := 0, globalTime := 0
      reportedClear := BitVec.allOnes 16 }
  mem := []
  agenda := []
  freeCount := 0

/-- The machine right after reset, at the spec's default sizes (70_reset_and_hazards.md R480, 00_scope.md R8; log 10). -/
def State.reset : State := State.resetWith Config.defaults

end Sys2Proof.Machine
end

