-- ==== Sys2Proof/Machine/Operands.lean ====
section
/-! DEFINITION. Machine/Operands.lean: how encoded fields become the values the rules use (30_encoding.md R137), the
interface descriptor (42_state_commands.md R262 to R270), payload registers (43_primitive_commands.md R301, R304) and
the R0 header TS writes (45_messages.md R393 to R396). -/

namespace Sys2Proof.Machine

open Sys2Proof

/-! ### Payload registers -/

/-- Inline DWords as registers, the last one filled with zeros (43_primitive_commands.md R301). -/
def inlineRegs (l : List DWord) : List Reg :=
  (List.range (ceil8 l.length)).map fun j => Reg.ofDWords fun d => l.getD (8 * j + d) 0

/-- The DWord of four bytes, the first byte lowest: little-endian (20_memory.md R90; log 4). -/
def dwordOfBytes (byteAt : Nat → Byte) (at_ : Nat) : DWord :=
  byteAt (at_ + 3) ++ byteAt (at_ + 2) ++ byteAt (at_ + 1) ++ byteAt at_

/-- The register of the 32 bytes from `at_` up, little-endian (20_memory.md R90; log 4). -/
def regOfBytes (byteAt : Nat → Byte) (at_ : Nat) : Reg :=
  Reg.ofDWords fun d => dwordOfBytes byteAt (at_ + 4 * d)

/-- `n` registers from the 32 * `n` bytes from `at_` up. -/
def regsOfBytes (byteAt : Nat → Byte) (at_ n : Nat) : List Reg :=
  (List.range n).map fun j => regOfBytes byteAt (at_ + 32 * j)

/-! ### The interface descriptor -/

/-- INTERFACE_DESCRIPTOR_DATA (42_state_commands.md R262). -/
structure InterfaceDescriptor where
  /-- Instruction offset bits 31:6 (R263). -/
  kernelStartPointer       : BitVec 26
  /-- Dynamic State offset bits 31:5 (R267). -/
  samplerStatePointer      : BitVec 27
  samplerCount             : BitVec 3
  /-- Surface State offset bits 31:5 (R267). -/
  bindingTablePointer      : BitVec 27
  bindingTableEntryCount   : BitVec 5
  constantUrbReadLength    : BitVec 16
  constantUrbReadOffset    : BitVec 16
  barrierId                : BitVec 4
deriving DecidableEq, Repr

/-- The bit of descriptor DWord 1 that holds Floating Point Mode (42_state_commands.md R264 (b)). -/
def floatingPointModeBit (b : Config.ModeBits) : Nat :=
  match b.upper with
  | .mode15Opcode13 => 15
  | .mode16Opcode13 => 16
  | .mode16Opcode14 => 16

/-- The bit of descriptor DWord 1 that holds Illegal Opcode Exception Enable (42_state_commands.md R264 (b)). -/
def illegalOpcodeEnableBit (b : Config.ModeBits) : Nat :=
  match b.upper with
  | .mode15Opcode13 => 13
  | .mode16Opcode13 => 13
  | .mode16Opcode14 => 14

/-- The bit of descriptor DWord 1 that holds MaskStack Exception Enable (42_state_commands.md R264 (a)). -/
def maskStackEnableBit : Nat := 11

/-- The bit of descriptor DWord 1 that holds Software Exception Enable (42_state_commands.md R264 (b)). -/
def softwareEnableBit (b : Config.ModeBits) : Nat := b.softwareLessOne.val + 1

/-- The modes of a thread in its descriptor's DWord 1 (42_state_commands.md R262, R264 to R266). -/
def modesOf (b : Config.ModeBits) (r : Reg) : ThreadModes where
  floatingPointMode := flag (r.dword 1) (floatingPointModeBit b)
  singleProgramFlow := flag (r.dword 1) 18
  priority := flag (r.dword 1) 17
  exceptions :=
    { illegalOpcode := flag (r.dword 1) (illegalOpcodeEnableBit b)
      maskStack := flag (r.dword 1) maskStackEnableBit
      software := flag (r.dword 1) (softwareEnableBit b) }

/-- The fields of one descriptor but those of DWord 1, which `modesOf` gives (42_state_commands.md R262). -/
def descriptorOf (r : Reg) : InterfaceDescriptor where
  kernelStartPointer := bits (r.dword 0) 6 26
  samplerStatePointer := bits (r.dword 2) 5 27
  samplerCount := bits (r.dword 2) 2 3
  bindingTablePointer := bits (r.dword 3) 5 27
  bindingTableEntryCount := bits (r.dword 3) 0 5
  constantUrbReadLength := bits (r.dword 4) 16 16
  constantUrbReadOffset := bits (r.dword 4) 0 16
  barrierId := bits (r.dword 5) 0 4

/-- Every bit of descriptor DWord 1 that no field takes (42_state_commands.md R262). -/
def descriptorDWord1Mbz (b : Config.ModeBits) (w : DWord) : Bool :=
  (List.range 32).all fun i =>
    !flag w i
      || [18, 17, floatingPointModeBit b, illegalOpcodeEnableBit b, maskStackEnableBit, softwareEnableBit b].contains i

/-- The MBZ fields of a descriptor are zero (42_state_commands.md R262). -/
def descriptorMbz (b : Config.ModeBits) (r : Reg) : Bool :=
  mbz (r.dword 0) 0 6 && descriptorDWord1Mbz b (r.dword 1) && mbz (r.dword 2) 0 2 && mbz (r.dword 5) 4 28
    && mbz (r.dword 6) 8 24 && mbz (r.dword 7) 0 32

/-- The fields of a descriptor are in their ranges: Sampler Count 0..4, Read Length 0..63, Read Offset 0..2015 where it
is not ignored (42_state_commands.md R267, R268; 30_encoding.md R138 item 4). -/
def descriptorInRange (r : Reg) : Bool :=
  decide ((descriptorOf r).samplerCount.toNat ≤ 4)
    && decide ((descriptorOf r).constantUrbReadLength.toNat ≤ 63)
    && ((descriptorOf r).constantUrbReadLength == 0 || decide ((descriptorOf r).constantUrbReadOffset.toNat ≤ 2015))

/-- The constant registers lie in the ROB (42_state_commands.md R268). -/
def constantsInRange (p : Config.Params) (d : InterfaceDescriptor) : Bool :=
  d.constantUrbReadLength == 0
    || decide (d.constantUrbReadOffset.toNat + d.constantUrbReadLength.toNat ≤ p.robRegisters - 33)

/-! ### URB entries and scratch -/

/-- The ROB register where the URB entry of handle `h` begins (40_vfe_and_walker.md R164, 10_state.md R45). -/
def urbEntryBase (v : VfeRecord) (h : BitVec 16) : Nat :=
  Config.robReservedRegisters + v.curbeAllocationSize.toNat + h.toNat * v.urbEntryAllocationSize.toNat

/-- R0.5[31:10] for scratch slot `k`: the base plus `k` regions of (size + 1) KB, as a General State offset
(41_thread_spawner.md R209). -/
def scratchPointer (base : BitVec 22) (size : BitVec 4) (slot : Nat) : BitVec 22 :=
  base + BitVec.ofNat 22 (slot * (size.toNat + 1))

/-! ### The R0 header -/

/-- BARRIER_OFFSET of a descriptor: what the arguments of the model list, else the default 0 (00_scope.md R8,
45_messages.md R394; log 11). -/
def barrierOffset (p : Config.Params) (desc : Reg) : BitVec 7 :=
  match p.barrierOffsets.find? fun e => e.1 == desc with
  | some e => e.2
  | none => 0

/-- R0.2 of a thread of MEDIA_OBJECT or MEDIA_OBJECT_WALKER (45_messages.md R393, R394). -/
def r02Generic (p : Config.Params) (desc : Reg) (ido : BitVec 5) (color : BitVec 4) : DWord :=
  0#4 ++ (descriptorOf desc).barrierId ++ 0#1 ++ barrierOffset p desc ++ 0#7 ++ ido ++ color

/-- R0.2 of a MEDIA_OBJECT_PRT thread (45_messages.md R396; log 20). -/
def r02Prt (p : Config.Params) (desc : Reg) (ido : BitVec 5) (restart : Bool) : DWord :=
  0#4 ++ (descriptorOf desc).barrierId ++ 0#1 ++ barrierOffset p desc ++ 0#7 ++ ido ++ 0#3 ++ bit restart

/-- R0.1: Scoreboard Y and X; zero for a PRT (45_messages.md R394, R396). -/
def r01 (r : RootReq) : DWord :=
  if r.control.isPrt then 0#32 else 0#7 ++ r.position.y ++ 0#7 ++ r.position.x

/-- R0.2 of a request's thread. -/
def r02 (p : Config.Params) (r : RootReq) (desc : Reg) : DWord :=
  if r.control.isPrt then r02Prt p desc r.control.interfaceDescriptorOffset r.control.restart
  else r02Generic p desc r.control.interfaceDescriptorOffset r.position.color

/-- R0.0: Scoreboard Mask and URB Handle; a PRT has no mask (45_messages.md R394, R396). -/
def r00 (r : RootReq) : DWord :=
  if r.control.isPrt then 0#16 ++ r.handle else r.control.scoreboardMask ++ 0#8 ++ r.handle

/-- R0.3: Sampler State Pointer and Per Thread Scratch Space (45_messages.md R395; log 32). -/
def r03 (r : RootReq) (desc : Reg) : DWord :=
  (descriptorOf desc).samplerStatePointer ++ 0#1 ++ r.scratchSize

/-- R0.4: Binding Table Pointer (45_messages.md R395). -/
def r04 (desc : Reg) : DWord := (descriptorOf desc).bindingTablePointer ++ 0#5

/-- R0.5: Scratch Space Pointer and FFTID (45_messages.md R395). -/
def r05 (r : RootReq) (fftid : BitVec 8) (slot : Nat) : DWord :=
  scratchPointer r.scratchBase r.scratchSize slot ++ 0#2 ++ fftid

/-- The R0 header TS builds for a root thread (45_messages.md R393, R396). -/
def rootHeader (p : Config.Params) (r : RootReq) (desc : Reg) (fftid : BitVec 8) (slot : Nat) : Reg :=
  Reg.ofList [r00 r, r01 r, r02 p r desc, r03 r desc, r04 desc, r05 r fftid slot, 0#32, 0#32]

end Sys2Proof.Machine
end

