-- ==== Sys2Proof/Machine/Flags.lean ====
section
/-! DEFINITION. Machine/Flags.lean: the pipeline has no condition codes (10_state.md R68). What stands here are the three
enables as bits of CR0.1, and the yes-or-no conditions units test: scoreboard dependencies (41_thread_spawner.md R231 to
R233), half-slice (R236), a message's kind, barrier clear (42_state_commands.md R286). -/

namespace Sys2Proof.Machine

open Sys2Proof

/-- The three enables at their places in CR0.1, every other bit zero: what dispatch loads, as a mask
(42_state_commands.md R266). -/
def cr01Enables (e : ExceptionEnables) : DWord :=
  0#18 ++ bit e.software ++ bit e.illegalOpcode ++ bit e.maskStack ++ 0#11

/-! ### The scoreboard -/

/-- The scoreboard acts on this request (41_thread_spawner.md R231). -/
def scoreboardActive (v : VfeRecord) (r : RootReq) : Bool := v.scoreboardEnable && r.control.useScoreboard

/-- The instance a request enters (41_thread_spawner.md R233). -/
def RootReq.entryOf (r : RootReq) : SbInstance := ⟨r.position.x.toNat, r.position.y.toNat, r.position.color⟩

/-- The instance of scoreboard `n` a request depends on: same color, at the relative distance of delta `n`
(41_thread_spawner.md R231; log 14). -/
def dependency (v : VfeRecord) (r : RootReq) (n : Fin 8) : SbInstance :=
  ⟨r.position.x.toNat + v.deltas[n].x.toInt, r.position.y.toNat + v.deltas[n].y.toInt, r.position.color⟩

/-- The instances a request depends on: those of the scoreboards enabled in both masks (41_thread_spawner.md R231);
none if the scoreboard does not act on it (R234). -/
def dependencies (v : VfeRecord) (r : RootReq) : List SbInstance :=
  if scoreboardActive v r then
    ((List.finRange 8).filter fun n => (r.control.scoreboardMask &&& v.scoreboardMask).getLsbD n.val).map
      (dependency v r)
  else []

/-- Every dependency is clear: its instance is not tracked (41_thread_spawner.md R233; log 14). -/
def dependenciesClear (v : VfeRecord) (tracking : List SbInstance) (r : RootReq) : Bool :=
  (dependencies v r).all fun d => !tracking.contains d

/-! ### Half-slices -/

/-- A request may run on this half-slice (41_thread_spawner.md R236; 43_primitive_commands.md R305). -/
def halfSliceFits (select : BitVec 2) (h : HalfSlice) : Bool :=
  match h with
  | .zero => select == 0b00#2 || select == 0b01#2
  | .one => select == 0b00#2 || select == 0b10#2

/-! ### Messages -/

/-- Opcode 1: a spawn message (30_encoding.md R135). -/
def isSpawn (m : SendMsg) : Bool := m.desc.getLsbD 0

/-- Opcode 1 and Resource Select 1: a spawn-root message (30_encoding.md R135). -/
def isSpawnRoot (m : SendMsg) : Bool := m.desc.getLsbD 0 && m.desc.getLsbD 4

/-! ### Barriers -/

/-- The barrier a register image belongs to: R0.2[27:24] (45_messages.md R394, R403). -/
def barrierOfImage (regs : List Reg) : BitVec 4 := bits (Reg.dword (regs.getD 0 0) 2) 24 4

/-- No outstanding thread is associated with barrier `b` (42_state_commands.md R286). That a thread which is requested, or
which has ended and is not retired, is outstanding here is the model's choice (log 17). -/
def noThreadAtBarrier (td : Dispatcher) (b : Fin 16) : Bool :=
  td.threads.all (fun t => barrierOfImage t.regs != BitVec.ofNat 4 b.val)
    && td.queue.all (fun q => barrierOfImage q.regs != BitVec.ofNat 4 b.val)

/-- BarrierClear(b): the Gateway reports it clear, or no thread is associated with it (42_state_commands.md R286;
log 17). -/
def barrierClear (s : State) (b : Fin 16) : Bool :=
  s.gateway.reportedClear.getLsbD b.val || noThreadAtBarrier s.td b

/-- Every barrier of a mask is clear (42_state_commands.md R284). -/
def barriersClear (s : State) (mask : BitVec 16) : Bool :=
  (List.finRange 16).all fun b => !mask.getLsbD b.val || barrierClear s b

end Sys2Proof.Machine
end

