-- ==== Sys2Proof/Machine/Walker.lean ====
section
/-! DEFINITION. Machine/Walker.lean: the Parameterized Media Walker (40_vfe_and_walker.md R175 to R192). Inside the class
of R187 the walk is the reference walk; outside it the positions are a free value (log 12). -/

namespace Sys2Proof.Machine

open Sys2Proof

/-- A point of the walker's space. -/
structure Point where
  x : Int
  y : Int
deriving DecidableEq, Repr

/-- The sum of two points. -/
def Point.add (p q : Point) : Point := ⟨p.x + q.x, p.y + q.y⟩

/-- A U9 pair as a point: unsigned (30_encoding.md R137). -/
def pointU (p : FieldXY 9) : Point := ⟨p.x.toNat, p.y.toNat⟩

/-- An S9 pair as a point: two's complement (30_encoding.md R137). -/
def pointS (p : FieldXY 10) : Point := ⟨p.x.toInt, p.y.toInt⟩

/-- An S1 pair as a point: two's complement, -2..1 (30_encoding.md R137). -/
def pointS1 (p : FieldXY 2) : Point := ⟨p.x.toInt, p.y.toInt⟩

/-- A point as a pair. -/
def Point.pair (p : Point) : Int × Int := (p.x, p.y)

/-- The walker's fields as the values the rules use (30_encoding.md R137). -/
def walkValues (w : WalkerParams) : Config.WalkValues where
  dualMode := w.dualMode
  repel := w.repel
  colorCount := w.colorCountMinusOne.toNat + 1
  middleLoopExtraSteps := w.middleLoopExtraSteps.toNat
  localMidLoopUnit := (pointS1 w.localMidLoopUnit).pair
  globalLoopExecCount := w.globalLoopExecCount.toNat
  localLoopExecCount := w.localLoopExecCount.toNat
  blockResolution := (pointU w.blockResolution).pair
  localStart := (pointU w.localStart).pair
  localEnd := (pointU w.localEnd).pair
  localOuterLoopStride := (pointS w.localOuterLoopStride).pair
  localInnerLoopUnit := (pointS w.localInnerLoopUnit).pair
  globalResolution := (pointU w.globalResolution).pair
  globalStart := (pointS w.globalStart).pair
  globalOuterLoopStride := (pointS w.globalOuterLoopStride).pair
  globalInnerLoopUnit := (pointS w.globalInnerLoopUnit).pair

/-- inBox of 40_vfe_and_walker.md R187. -/
def inBox (p r : Point) : Bool :=
  decide (0 ≤ p.x) && decide (p.x < r.x) && decide (0 ≤ p.y) && decide (p.y < r.y)

/-- The positions of one loop: from `p` by `v` while inside `box`, at most `fuel` of them. -/
def march : Nat → Point → Point → Point → List Point
  | 0, _, _, _ => []
  | fuel + 1, p, v, box => if inBox p box then p :: march fuel (p.add v) v box else []

/-- More steps than any loop with a positive unit vector can take: coordinates have 9 bits. -/
def walkFuel : Nat := 512

/-- One unit vector points along X and the other along Y, both forwards (40_vfe_and_walker.md R187). -/
def axisPair (u v : Point) : Bool :=
  (decide (0 < u.x) && u.y == 0 && v.x == 0 && decide (0 < v.y))
    || (u.x == 0 && decide (0 < u.y) && decide (0 < v.x) && v.y == 0)

/-- The preconditions of the reference walk (40_vfe_and_walker.md R187). -/
def axisAligned (w : WalkerParams) : Bool :=
  !w.dualMode && !w.repel && w.middleLoopExtraSteps == 0
    && w.globalStart == ⟨0, 0⟩ && w.localStart == ⟨0, 0⟩
    && axisPair (pointS w.globalOuterLoopStride) (pointS w.globalInnerLoopUnit)
    && axisPair (pointS w.localOuterLoopStride) (pointS w.localInnerLoopUnit)

/-- Local_Block_Boundary_Adjustment: the local block where the global box ends (40_vfe_and_walker.md R182, R187). -/
def blockAt (w : WalkerParams) (g : Point) : Point :=
  ⟨min (pointU w.blockResolution).x ((pointU w.globalResolution).x - g.x),
   min (pointU w.blockResolution).y ((pointU w.globalResolution).y - g.y)⟩

/-- The colors of a walk, 0 up (40_vfe_and_walker.md R188). -/
def colors (w : WalkerParams) : List (BitVec 4) :=
  (List.range (w.colorCountMinusOne.toNat + 1)).map (BitVec.ofNat 4)

/-- A run of the innermost loop, run once per color (40_vfe_and_walker.md R187). -/
def runPerColor (w : WalkerParams) (run : List Point) : List (Point × BitVec 4) :=
  (colors w).flatMap fun c => run.map fun p => (p, c)

/-- A run of the innermost loop, each position repeated color by color. -/
def runInARow (w : WalkerParams) (run : List Point) : List (Point × BitVec 4) :=
  run.flatMap fun p => (colors w).map fun c => (p, c)

/-- The walk of one local block (40_vfe_and_walker.md R187). -/
def localWalk (w : WalkerParams) (g : Point) : List (Point × BitVec 4) :=
  (march walkFuel ⟨0, 0⟩ (pointS w.localOuterLoopStride) (blockAt w g)).flatMap fun l =>
    runPerColor w ((march walkFuel l (pointS w.localInnerLoopUnit) (blockAt w g)).map g.add)

/-- The reference walk of 40_vfe_and_walker.md R187. -/
def referenceWalk (w : WalkerParams) : List (Point × BitVec 4) :=
  (march walkFuel ⟨0, 0⟩ (pointS w.globalOuterLoopStride) (pointU w.globalResolution)).flatMap fun g =>
    (march walkFuel g (pointS w.globalInnerLoopUnit) (pointU w.globalResolution)).flatMap (localWalk w)

/-- The walk outside the class of R187: the positions are free, their colors are not (40_vfe_and_walker.md R185 item 3;
log 12). -/
def freeWalk (w : WalkerParams) : List (Point × BitVec 4) :=
  (Config.openWalk (walkValues w)).flatMap fun run =>
    if Config.openWalkColorsInARow (walkValues w) then runInARow w (run.map fun p => ⟨p.1, p.2⟩)
    else runPerColor w (run.map fun p => ⟨p.1, p.2⟩)

/-- WalkSeq (40_vfe_and_walker.md R185). -/
def walkSeq (w : WalkerParams) : List (Point × BitVec 4) :=
  if axisAligned w then referenceWalk w else freeWalk w

/-- The position fits the 9-bit fields of R0.1 (40_vfe_and_walker.md R189). -/
def positionFits (p : Point × BitVec 4) : Bool :=
  decide (0 ≤ p.1.x) && decide (p.1.x ≤ 511) && decide (0 ≤ p.1.y) && decide (p.1.y ≤ 511)

/-- A walk element as the position of a thread (40_vfe_and_walker.md R189). -/
def walkPos (p : Point × BitVec 4) : WalkPos := ⟨BitVec.ofInt 9 p.1.x, BitVec.ofInt 9 p.1.y, p.2⟩

end Sys2Proof.Machine
end

