-- ==== Sys2Proof/Machine/Ops.lean ====
section
/-! DEFINITION. Machine/Ops.lean: the named operations over memory, the ROB, the command stream, the URB handle pool and
VFE's work, which the meanings and the turns share.

No exception is taken anywhere: the pipeline has no exception vector, no cause, no trap entry and no return
(60_exceptions.md R440, R443), so there is no such operation here. -/

namespace Sys2Proof.Machine

open Sys2Proof

/-- A `require` line of the spec: go on if it holds, else refuse (93_implementation_defined.md U4). -/
def require (ok : Bool) (r : Refusal) (k : Result) : Result := if ok then k else .refused r

/-! ### Sparse stores: graphics memory and the ROB

Entries by rising number; a number that is not listed holds zero, and no entry lists a zero, so that equal contents are
equal lists. -/

/-- What a store holds at a number. -/
def Sparse.read {n : Nat} : List (Nat × BitVec n) → Nat → BitVec n
  | [], _ => 0
  | (k, v) :: rest, a => if k = a then v else Sparse.read rest a

/-- Put one entry in front, unless it holds zero. -/
def Sparse.consNonzero {n : Nat} (a : Nat) (v : BitVec n) (rest : List (Nat × BitVec n)) : List (Nat × BitVec n) :=
  if v = 0 then rest else (a, v) :: rest

/-- The store with one number changed. -/
def Sparse.write {n : Nat} : List (Nat × BitVec n) → Nat → BitVec n → List (Nat × BitVec n)
  | [], a, v => Sparse.consNonzero a v []
  | (k, w) :: rest, a, v =>
    if a < k then Sparse.consNonzero a v ((k, w) :: rest)
    else if a = k then Sparse.consNonzero a v rest
    else (k, w) :: Sparse.write rest a v

/-- The store with a run of numbers changed, from `a` up. -/
def Sparse.writeRun {n : Nat} (m : List (Nat × BitVec n)) (a : Nat) : List (BitVec n) → List (Nat × BitVec n)
  | [] => m
  | v :: vs => Sparse.writeRun (Sparse.write m a v) (a + 1) vs

/-- Canonical from number `lo` up. -/
def Sparse.wfFrom {n : Nat} (lo : Nat) : List (Nat × BitVec n) → Bool
  | [] => true
  | (k, v) :: rest => decide (lo ≤ k) && v != 0 && Sparse.wfFrom (k + 1) rest

/-- The canonical form. -/
def Sparse.wf {n : Nat} (m : List (Nat × BitVec n)) : Bool := Sparse.wfFrom 0 m

/-! ### Graphics memory -/

/-- One byte of graphics memory (20_memory.md R81; log 3). -/
def Memory.read (m : List Host.Cell) (a : Nat) : Byte := Sparse.read m a

/-- Bytes written from an address up (10_state.md R34). -/
def Memory.write (m : List Host.Cell) (a : Nat) (bytes : List Byte) : List Host.Cell := Sparse.writeRun m a bytes

/-- The canonical form of graphics memory. -/
def Memory.wf (m : List Host.Cell) : Bool := Sparse.wf m

/-- MemRead as registers: `n` registers from `base + offset` up (20_memory.md R83). -/
def memRegs (m : List Host.Cell) (base offset n : Nat) : List Reg := regsOfBytes (Memory.read m) (base + offset) n

/-! ### The ROB -/

/-- RobRead (10_state.md R45). -/
def Rob.read (rob : Rob) (r : Nat) : Reg := Sparse.read rob.regs r

/-- RobWrite (10_state.md R45) in a ROB of `size` registers: a number the ROB does not have is not written. -/
def Rob.write (rob : Rob) (size r : Nat) (v : Reg) : Rob :=
  if r < size then { rob with regs := Sparse.write rob.regs r v } else rob

/-- Registers written from a number up. -/
def Rob.writeRun (rob : Rob) (size r : Nat) : List Reg → Rob
  | [] => rob
  | v :: vs => (rob.write size r v).writeRun size (r + 1) vs

/-- UrbRegs: `n` registers of the entry of a handle, from `offset` up (41_thread_spawner.md R214). -/
def urbRegs (v : VfeRecord) (rob : Rob) (h : BitVec 16) (offset n : Nat) : List Reg :=
  (List.range n).map fun i => rob.read (urbEntryBase v h + offset + i)

/-- Register `i` of the CURBE region, as read number `n` sees it: what was loaded, or free where no load defined it
(93_implementation_defined.md U9; log 7). -/
def curbeReg (rob : Rob) (n i : Nat) : Reg :=
  if i < rob.curbeDefined then rob.read (Config.robReservedRegisters + i) else Config.undefinedCurbe n

/-- CurbeRegs of a descriptor (42_state_commands.md R268). The reads are numbered from `free` up, one number each; whoever
calls moves the counter on past them. -/
def curbeRegs (rob : Rob) (d : InterfaceDescriptor) (free : Nat) : List Reg :=
  (List.range d.constantUrbReadLength.toNat).map fun i => curbeReg rob (free + i) (d.constantUrbReadOffset.toNat + i)

/-! ### The command stream -/

/-- The DWords at the front of the stream, up to the first external command (10_state.md R66). -/
def leadingDWords : List StreamItem → List DWord
  | [] => []
  | .dword w :: rest => w :: leadingDWords rest
  | .external _ :: _ => []

/-- Take `n` items off the stream. -/
def State.dropStream (s : State) (n : Nat) : State := { s with cs := { s.cs with stream := s.cs.stream.drop n } }

/-- Move past a command of this DWord Length (30_encoding.md R122). -/
def State.takeCommand (s : State) (dwordLength : BitVec 16) : State := s.dropStream (dwordLength.toNat + 2)

/-- The media pipeline is selected (10_state.md R32). -/
def mediaSelected (s : State) : Bool := s.cs.pipeline == .media

/-! ### The URB handle pool -/

/-- A fresh pool of `n` handles, none referenced, the head at the first (40_vfe_and_walker.md R167). -/
def HandlePool.fresh (n : Nat) : HandlePool := ⟨List.replicate n false, 0⟩

/-- The head handle exists and is not referenced (40_vfe_and_walker.md R166). -/
def HandlePool.headFree (p : HandlePool) : Bool := p.referenced[p.head]? == some false

/-- The head handle (log 24). -/
def HandlePool.headHandle (p : HandlePool) : BitVec 16 := BitVec.ofNat 16 p.head

/-- Reference the head handle and move the head on, round the circle (40_vfe_and_walker.md R166). -/
def HandlePool.take (p : HandlePool) : HandlePool :=
  ⟨p.referenced.set p.head true, (p.head + 1) % p.referenced.length⟩

/-- The pool has this handle. -/
def HandlePool.has (p : HandlePool) (h : BitVec 16) : Bool := decide (h.toNat < p.referenced.length)

/-- UrbRegs of the handle a message names: `n` registers from `offset` up. A handle the pool does not have names no entry,
and what its registers hold is free, read by read from number `free` on (45_messages.md R403; log 24). -/
def namedUrbRegs (vfe : Vfe) (rob : Rob) (h : BitVec 16) (offset n free : Nat) : List Reg :=
  if vfe.pool.has h then urbRegs vfe.record rob h offset n
  else (List.range n).map fun i => Config.undefinedUrb (free + i)

/-- Dereference a handle (40_vfe_and_walker.md R166). -/
def HandlePool.dereference (p : HandlePool) (h : BitVec 16) : HandlePool :=
  { p with referenced := p.referenced.set h.toNat false }

/-- No handle is referenced. -/
def HandlePool.allFree (p : HandlePool) : Bool := p.referenced.all (!·)

/-- TS signals VFE: dereference this handle (41_thread_spawner.md R205, R216). -/
def State.dereference (s : State) (h : BitVec 16) : State :=
  { s with vfe := { s.vfe with pool := s.vfe.pool.dereference h } }

/-! ### VFE's work -/

/-- What VFE has left of a primitive command. -/
def Generation.left (g : Generation) : Option VfeWork :=
  if g.todo.isEmpty && g.assembled.isNone then none else some (.generate g)

/-- VFE's work changed. -/
def State.setWork (s : State) (w : Option VfeWork) : State := { s with vfe := { s.vfe with work := w } }

/-- RootQ has a free entry (10_state.md R50; log 9). -/
def rootQHasRoom (s : State) : Bool := decide (s.ts.rootQ.length < Config.rootQueueDepth)

/-- A request goes to the end of RootQ (40_vfe_and_walker.md R164). -/
def State.enqueueRoot (s : State) (r : RootReq) : State :=
  { s with ts := { s.ts with rootQ := s.ts.rootQ ++ [r] } }

/-- The request for one position, with the head handle and the scratch configuration of now
(40_vfe_and_walker.md R164, 10_state.md R38). -/
def rootReqFor (s : State) (g : Generation) (p : WalkPos) : RootReq where
  control := g.control
  position := p
  handle := s.vfe.pool.headHandle
  payloadRegs := g.payload.length
  scratchBase := s.vfe.record.scratchSpaceBasePointer
  scratchSize := s.vfe.record.perThreadScratchSpace

/-- Reference the head handle and write the payload into its entry (40_vfe_and_walker.md R164). -/
def State.writePayload (s : State) (payload : List Reg) : State :=
  { s with
    vfe := { s.vfe with pool := s.vfe.pool.take }
    rob := s.rob.writeRun s.params.robRegisters (urbEntryBase s.vfe.record s.vfe.pool.headHandle) payload }

/-- Put a request into RootQ, or keep it until there is room (40_vfe_and_walker.md R164). -/
def offerRoot (g : Generation) (r : RootReq) (s : State) : State :=
  if rootQHasRoom s then (s.enqueueRoot r).setWork { g with assembled := none }.left
  else s.setWork (some (.generate { g with assembled := some r }))

/-- VFE goes on with a primitive command: at most one root thread (GenerateRootThread, 40_vfe_and_walker.md R164, R189;
log 31). -/
def generateStep (g : Generation) (s : State) : State :=
  match g.assembled with
  | some r => offerRoot g r s
  | none =>
    match g.todo with
    | [] => s.setWork none
    | p :: rest =>
      if s.vfe.pool.headFree then offerRoot { g with todo := rest } (rootReqFor s g p) (s.writePayload g.payload)
      else s.setWork (some (.generate g))

/-- VFE takes a primitive command: note that one has run, and begin (40_vfe_and_walker.md R163; log 28). -/
def startGeneration (control : RootControl) (payload : List Reg) (todo : List WalkPos) (s : State) : State :=
  generateStep ⟨control, payload, todo, none⟩
    { s with vfe := { s.vfe with primSinceFlush := true, primSinceStateFlush := true } }

/-- TD has acknowledged every root request made so far (42_state_commands.md R284). -/
def rootsAcknowledged (td : Dispatcher) : Bool :=
  td.queue.all fun q => match q.kind with
    | .root _ => false
    | .child => true

/-- The front ends hold no root request (42_state_commands.md R284; log 26). -/
def frontEndEmpty (s : State) : Bool :=
  s.ts.rootQ.isEmpty && s.ts.aside.isEmpty && rootsAcknowledged s.td

/-- A MEDIA_STATE_FLUSH may complete (42_state_commands.md R284 to R286). -/
def stateFlushDone (s : State) (waterMark : BitVec 8) (mask : BitVec 16) : Bool :=
  frontEndEmpty s && decide (waterMark.toNat ≤ s.td.freeSlots) && barriersClear s mask

/-- A MEDIA_STATE_FLUSH completes, or VFE holds it (42_state_commands.md R284). -/
def stateFlushStep (waterMark : BitVec 8) (mask : BitVec 16) (s : State) : State :=
  if stateFlushDone s waterMark mask then
    { s with vfe := { s.vfe with work := none, primSinceStateFlush := false } }
  else s.setWork (some (.flush waterMark mask))

/-- VFE goes on with the command it has taken (40_vfe_and_walker.md R163). -/
def continueWork (w : VfeWork) (s : State) : State :=
  match w with
  | .generate g => generateStep g s
  | .flush waterMark mask => stateFlushStep waterMark mask s

/-! ### Loads into the ROB -/

/-- No thread runs, is requested or has a message waiting: nobody can see older contents (20_memory.md R106). That a
thread which has ended and is not retired counts as one that may still spawn is the model's choice (log 8). -/
def nobodySpawns (s : State) : Bool := s.td.threads.isEmpty && s.td.queue.isEmpty && s.ts.childQ.isEmpty

/-- The older contents after a load (93_implementation_defined.md U7; log 8). -/
def staleAfterLoad (s : State) : List Rob := if nobodySpawns s then [] else s.rob :: s.stale

/-- The ROB after a CURBE load (42_state_commands.md R256). -/
def loadCurbe (s : State) (regs : List Reg) : State :=
  { s with
    rob := { s.rob.writeRun s.params.robRegisters Config.robReservedRegisters regs with
             curbeLength := regs.length, curbeDefined := regs.length }
    stale := staleAfterLoad s }

/-- The ROB after a descriptor load of `k` registers (42_state_commands.md R260). ROB registers `k`..31 keep what they
held, which nothing reads: the spec leaves them unspecified and a descriptor is read only below `idtCount` (log 41). -/
def loadDescriptors (s : State) (regs : List Reg) : State :=
  { s with
    rob := { s.rob.writeRun s.params.robRegisters 0 regs with idtCount := regs.length }
    stale := staleAfterLoad s }

/-! ### Flush obligations -/

/-- The two records differ at most in scoreboard fields (42_state_commands.md R253). -/
def sameButScoreboard (a b : VfeRecord) : Bool :=
  { b with
    scoreboardEnable := a.scoreboardEnable
    scoreboardType := a.scoreboardType
    scoreboardMask := a.scoreboardMask
    deltas := a.deltas } == a

/-- The flush MEDIA_VFE_STATE needs has happened (70_reset_and_hazards.md R487; log 28). -/
def vfeStateFlushed (s : State) (new : VfeRecord) : Bool :=
  !s.vfe.primSinceFlush
    || (!s.vfe.primSinceStateFlush && s.vfe.loaded && sameButScoreboard s.vfe.record new)

/-- No handle is in use and no request is queued (93_implementation_defined.md U16; log 27). -/
def noHandleInUse (s : State) : Bool :=
  s.vfe.pool.allFree && s.ts.rootQ.isEmpty && s.ts.aside.isEmpty && !s.ts.childQ.any isSpawn

/-- Nothing is in the pipeline: what a Flush waits for (70_reset_and_hazards.md R486; log 28). -/
def pipelineEmpty (s : State) : Bool :=
  s.vfe.work.isNone && s.ts.rootQ.isEmpty && s.ts.aside.isEmpty && s.ts.childQ.isEmpty && s.ts.rootCount == 0
    && s.ts.fence == .none && s.vfe.pool.allFree && s.td.queue.isEmpty && s.td.freeSlots == s.params.threadSlots

end Sys2Proof.Machine
end

