-- ==== Sys2Proof/Machine/PrimitiveCommands.lean ====
section
/-! DEFINITION. Machine/PrimitiveCommands.lean: the meanings of the three commands that create root threads
(43_primitive_commands.md). A meaning takes the command from the stream and generates its first thread if a handle is
free; what is left stays in VFE's work (log 31). -/

namespace Sys2Proof.Machine

open Sys2Proof

/-- What every primitive command needs: the VFE state record, and a descriptor that was loaded
(70_reset_and_hazards.md R480, 43_primitive_commands.md R302, 40_vfe_and_walker.md R165). -/
def requireDescriptor (s : State) (ido : BitVec 6) (k : Result) : Result :=
  require s.vfe.loaded .vfeStateUnset <|
  require (decide (ido.toNat ≤ 30)) .fieldOutOfRange <|
  require (decide (ido.toNat < s.rob.idtCount)) .descriptorNotLoaded k

/-- The payload fits one URB entry (40_vfe_and_walker.md R164). -/
def payloadFits (s : State) (registers : Nat) : Bool :=
  decide (registers ≤ s.vfe.record.urbEntryAllocationSize.toNat)

/-! ### MEDIA_OBJECT -/

/-- What indirect data needs, where there is any (43_primitive_commands.md R304). -/
def requireIndirect (s : State) (c : MediaObject) (k : Result) : Result :=
  if c.indirectDataLength = 0 then k
  else
    require (bits c.indirectDataStartAddress 29 3 == 0) .reservedBits <|
    require (c.indirectDataStartAddress.toNat % 32 == 0) .misaligned <|
    require (decide (s.cs.bases.indirectObject + c.indirectDataStartAddress.toNat + c.indirectDataLength.toNat
      ≤ s.cs.bases.indirectBound)) .beyondBound k

/-- The payload of MEDIA_OBJECT: inline registers, then indirect registers (43_primitive_commands.md R308). -/
def objectPayload (s : State) (c : MediaObject) : List Reg :=
  inlineRegs c.inlineData
    ++ memRegs s.mem s.cs.bases.indirectObject c.indirectDataStartAddress.toNat (c.indirectDataLength.toNat / 32)

/-- The control bits of a MEDIA_OBJECT (43_primitive_commands.md R300). -/
def objectControl (c : MediaObject) : RootControl where
  interfaceDescriptorOffset := c.interfaceDescriptorOffset.setWidth 5
  childrenPresent := c.childrenPresent
  threadSync := c.threadSync
  useScoreboard := c.useScoreboard
  halfSlice := c.halfSlice
  scoreboardMask := c.scoreboardMask
  isPrt := false
  fenceNeeded := false
  fenceType := false
  restart := false

/-- MEDIA_OBJECT (43_primitive_commands.md R300). -/
def execMediaObject (c : MediaObject) (s : State) : Result :=
  require (mediaSelected s) .threeDSelected <|
  require (Instr.mediaObject c).wellFormed .illegalLength <|
  requireDescriptor s c.interfaceDescriptorOffset <|
  require (c.halfSlice != 0b11#2) .halfSliceReserved <|
  require (c.indirectDataLength.toNat % 32 == 0) .misaligned <|
  require (decide (c.indirectDataLength.toNat ≤ 1984)) .fieldOutOfRange <|
  require (decide (ceil8 c.inlineData.length + c.indirectDataLength.toNat / 32 < 112)) .payloadTooLong <|
  requireIndirect s c <|
  require (payloadFits s (ceil8 c.inlineData.length + c.indirectDataLength.toNat / 32)) .payloadBeyondEntry <|
  .next (startGeneration (objectControl c) (objectPayload s c)
    [⟨c.scoreboardX, c.scoreboardY, c.scoreboardColor⟩] (s.takeCommand c.dwordLength))

/-! ### MEDIA_OBJECT_PRT -/

/-- The control bits of a MEDIA_OBJECT_PRT (43_primitive_commands.md R310); `restart` on a dispatch again after context
restore (60_exceptions.md R459). -/
def prtControl (c : MediaObjectPrt) (restart : Bool) : RootControl where
  interfaceDescriptorOffset := c.interfaceDescriptorOffset.setWidth 5
  childrenPresent := c.childrenPresent
  threadSync := false
  useScoreboard := false
  halfSlice := 0
  scoreboardMask := 0
  isPrt := true
  fenceNeeded := c.fenceNeeded
  fenceType := c.fenceType
  restart := restart

/-- The generation of a persistent root thread, noted as the context's last (43_primitive_commands.md R310,
60_exceptions.md R459). -/
def generatePrt (c : MediaObjectPrt) (restart : Bool) (s : State) : State :=
  startGeneration (prtControl c restart) (inlineRegs c.inlineData) [⟨0, 0, 0⟩]
    { s with vfe := { s.vfe with lastPrt := some c } }

/-- What MEDIA_OBJECT_PRT needs, but for its place in the stream (43_primitive_commands.md R310). -/
def requirePrt (s : State) (c : MediaObjectPrt) (k : Result) : Result :=
  require (mediaSelected s) .threeDSelected <|
  require (Instr.mediaObjectPrt c).wellFormed .illegalLength <|
  requireDescriptor s c.interfaceDescriptorOffset <|
  require (payloadFits s (ceil8 c.inlineData.length)) .payloadBeyondEntry k

/-- MEDIA_OBJECT_PRT (43_primitive_commands.md R310): the first primitive command after a flush
(93_implementation_defined.md U18). -/
def execMediaObjectPrt (c : MediaObjectPrt) (s : State) : Result :=
  requirePrt s c <|
  require (!s.vfe.primSinceFlush) .flushMissing <|
  .next (generatePrt c false (s.takeCommand c.dwordLength))

/-! ### MEDIA_OBJECT_WALKER -/

/-- The control bits of a walker's threads: either half-slice (40_vfe_and_walker.md R189, R190). -/
def walkerControl (c : MediaObjectWalker) : RootControl where
  interfaceDescriptorOffset := c.interfaceDescriptorOffset.setWidth 5
  childrenPresent := c.childrenPresent
  threadSync := c.threadSync
  useScoreboard := c.useScoreboard
  halfSlice := 0
  scoreboardMask := c.scoreboardMask
  isPrt := false
  fenceNeeded := false
  fenceType := false
  restart := false

/-- MEDIA_OBJECT_WALKER (43_primitive_commands.md R320). -/
def execMediaObjectWalker (c : MediaObjectWalker) (s : State) : Result :=
  require (mediaSelected s) .threeDSelected <|
  require (Instr.mediaObjectWalker c).wellFormed .illegalLength <|
  requireDescriptor s c.interfaceDescriptorOffset <|
  require (c.indirectDataLength == 0) .indirectOnWalker <|
  require (!(c.walk.repel && c.walk.dualMode)) .repelWithDual <|
  require ((walkSeq c.walk).all positionFits) .walkOutOfRange <|
  require ((walkSeq c.walk).isEmpty || payloadFits s (ceil8 c.inlineData.length)) .payloadBeyondEntry <|
  .next (startGeneration (walkerControl c) (inlineRegs c.inlineData) ((walkSeq c.walk).map walkPos)
    (s.takeCommand c.dwordLength))

end Sys2Proof.Machine
end

