-- ==== Sys2Proof/Machine/Spawning.lean ====
section
/-! DEFINITION. Machine/Spawning.lean: what TS does with root requests, spawn messages and dereferences
(41_thread_spawner.md R202 to R226, 45_messages.md R404 to R415). -/

namespace Sys2Proof.Machine

open Sys2Proof

/-- One of a list of alternatives: the only one, or the one a free value says; `d` if there is none (log 6). -/
def pick {α : Type} (l : List α) (d : α) (n : Nat) : α :=
  match l with
  | [] => d
  | [a] => a
  | _ => l.getD (Config.choice n % l.length) d

/-! ### Free ids and scratch slots -/

/-- The FFTIDs no outstanding root thread has (41_thread_spawner.md R208). -/
def freeFftids (ts : Spawner) : List (BitVec 8) :=
  ((List.range 256).map (BitVec.ofNat 8)).filter fun f => !ts.fftids.contains f

/-- The scratch slots 0 .. MaximumNumberOfThreads that no outstanding root thread holds
(41_thread_spawner.md R209). -/
def freeScratchSlots (v : VfeRecord) (ts : Spawner) : List Nat :=
  (List.range (v.maximumNumberOfThreads.toNat + 1)).filter fun k => !(ts.scratch.map Prod.fst).contains k

/-- The FFTID TS picks next (41_thread_spawner.md R208; log 6). -/
def pickedFftid (s : State) : BitVec 8 := pick (freeFftids s.ts) 0 s.freeCount

/-- The scratch slot TS picks next (41_thread_spawner.md R209; log 6). -/
def pickedSlot (s : State) : Nat := pick (freeScratchSlots s.vfe.record s.ts) 0 (s.freeCount + 1)

/-! ### What may leave RootQ -/

/-- The stalling scoreboard holds this request (41_thread_spawner.md R210 item 4, R232). -/
def scoreboardHolds (s : State) (r : RootReq) : Bool :=
  !s.vfe.record.scoreboardType && !dependenciesClear s.vfe.record s.ts.tracking r

/-- The non-stalling scoreboard sets this request aside (41_thread_spawner.md R232). -/
def scoreboardSetsAside (s : State) (r : RootReq) : Bool :=
  s.vfe.record.scoreboardType && !dependenciesClear s.vfe.record s.ts.tracking r

/-- TS has what a further root thread needs: a place under the limit, an id, a scratch slot, no root-queue fence, no
preempt sent (41_thread_spawner.md R210 items 1, 2, 5, R208, R209). -/
def rootRoom (s : State) : Bool :=
  decide (s.ts.rootCount ≤ s.vfe.record.maximumNumberOfThreads.toNat) && s.ts.fence != .rootQueue
    && !s.ts.preemptSent && !(freeFftids s.ts).isEmpty && !(freeScratchSlots s.vfe.record s.ts).isEmpty

/-- RootEligible, but for the pairing of a synchronized root (41_thread_spawner.md R210). -/
def rootEligible (s : State) (r : RootReq) : Bool := rootRoom s && !scoreboardHolds s r

/-! ### Dispatch of a root thread -/

/-- The descriptor register of a root request: roots see the current table (41_thread_spawner.md R207). -/
def rootDescriptor (s : State) (r : RootReq) : Reg := s.rob.read r.control.interfaceDescriptorOffset.toNat

/-- How many registers a spawn-root message passes (41_thread_spawner.md R220). -/
def extraLength : Option UrbRef → Nat
  | none => 0
  | some u => u.length.toNat

/-- The registers a spawn-root message passes (41_thread_spawner.md R220; log 24). -/
def extraRegs (s : State) : Option UrbRef → List Reg
  | none => []
  | some u => namedUrbRegs s.vfe s.rob u.handle u.offset.toNat u.length.toNat (s.freeCount + 2)

/-- The GRF image of a root thread (45_messages.md R390): R0 header, constants, the spawning thread's data, payload. -/
def rootImage (s : State) (r : RootReq) (extra : Option UrbRef) : List Reg :=
  rootHeader s.params r (rootDescriptor s r) (pickedFftid s) (pickedSlot s)
    :: (curbeRegs s.rob (descriptorOf (rootDescriptor s r)) (s.freeCount + 2)
        ++ extraRegs s extra ++ urbRegs s.vfe.record s.rob r.handle 0 r.payloadRegs)

/-- The request to TD for a root thread (41_thread_spawner.md R204, R214). -/
def rootTdReq (s : State) (r : RootReq) (extra : Option UrbRef) : TdReq where
  kind := .root
    { fftid := pickedFftid s, handle := r.handle, childrenPresent := r.control.childrenPresent
      isPrt := r.control.isPrt, fenceNeeded := r.control.fenceNeeded, fenceType := r.control.fenceType }
  kernel := (descriptorOf (rootDescriptor s r)).kernelStartPointer
  modes := modesOf s.params.modeBits (rootDescriptor s r)
  halfSlice := r.control.halfSlice
  regs := rootImage s r extra

/-- The scoreboard entry a request makes (41_thread_spawner.md R214, R233). -/
def madeEntry (s : State) (r : RootReq) : Option SbInstance :=
  if scoreboardActive s.vfe.record r then some r.entryOf else none

/-- What TS remembers of a root thread (41_thread_spawner.md R214). -/
def outstandingFor (s : State) (r : RootReq) : Outstanding where
  fftid := pickedFftid s
  handle := r.handle
  childrenPresent := r.control.childrenPresent
  dereferenced := false
  scratchSlot := pickedSlot s
  entry := madeEntry s r
  isPrt := r.control.isPrt

/-- The TS and TD side of a root dispatch (41_thread_spawner.md R214). The counter of free values moves past the two
choices and the number of each register read (log 6, 7, 24). -/
def startRoot (s : State) (r : RootReq) (extra : Option UrbRef) : State :=
  { s with
    ts := { s.ts with
            rootCount := s.ts.rootCount + 1
            fftids := pickedFftid s :: s.ts.fftids
            scratch := (pickedSlot s, pickedFftid s) :: s.ts.scratch
            outstanding := outstandingFor s r :: s.ts.outstanding
            tracking := (madeEntry s r).toList ++ s.ts.tracking }
    td := { s.td with queue := s.td.queue ++ [rootTdReq s r extra] }
    freeCount := s.freeCount + 2 + (descriptorOf (rootDescriptor s r)).constantUrbReadLength.toNat + extraLength extra }

/-- DispatchRoot and DispatchSynchronizedRoot (41_thread_spawner.md R214, R220). -/
def dispatchRoot (s : State) (r : RootReq) (extra : Option UrbRef) : Result :=
  require (constantsInRange s.params (descriptorOf (rootDescriptor s r))) .constantsOutOfRange <|
  require (decide ((rootImage s r extra).length ≤ s.params.grfRegisters)) .grfOverflow <|
  .next (startRoot s r extra)

/-- A root request has left RootQ: set aside by the non-stalling scoreboard, or dispatched
(41_thread_spawner.md R232; log 15). -/
def releaseRoot (s : State) (r : RootReq) (extra : Option UrbRef) : Result :=
  if scoreboardSetsAside s r then .next { s with ts := { s.ts with aside := s.ts.aside ++ [⟨r, extra⟩] } }
  else dispatchRoot s r extra

/-! ### Dispatch of a child thread -/

/-- The versions of the ROB that hold descriptor `i`: the current one and older ones
(93_implementation_defined.md U7; log 8). -/
def versionsWith (s : State) (i : Nat) : List Rob := (s.rob :: s.stale).filter fun v => decide (i < v.idtCount)

/-- The version a child's descriptor is read from (log 8). -/
def childDescriptorRob (s : State) (i : Nat) : Rob := pick (versionsWith s i) s.rob s.freeCount

/-- The version a child's constants are read from (log 8). -/
def childCurbeRob (s : State) : Rob := pick (s.rob :: s.stale) s.rob (s.freeCount + 1)

/-- The descriptor register a child is dispatched with (41_thread_spawner.md R226). -/
def childDescriptorReg (s : State) (m : MsgFields) : Reg :=
  (childDescriptorRob s m.interfaceDescriptorOffset.toNat).read m.interfaceDescriptorOffset.toNat

/-- Its fields. -/
def childDescriptor (s : State) (m : MsgFields) : InterfaceDescriptor := descriptorOf (childDescriptorReg s m)

/-- The GRF image of a child thread (45_messages.md R390): its R0, constants, its payload. -/
def childImage (s : State) (m : MsgFields) : List Reg :=
  namedUrbRegs s.vfe s.rob m.handle m.offset.toNat 1 (s.freeCount + 2)
    ++ curbeRegs (childCurbeRob s) (childDescriptor s m) (s.freeCount + 2)
    ++ namedUrbRegs s.vfe s.rob m.handle (m.offset.toNat + 1) m.length.toNat (s.freeCount + 3)

/-- The request to TD for a child thread: either half-slice (41_thread_spawner.md R224). -/
def childTdReq (s : State) (m : MsgFields) : TdReq where
  kind := .child
  kernel := (childDescriptor s m).kernelStartPointer
  modes := modesOf s.params.modeBits (childDescriptorReg s m)
  halfSlice := 0
  regs := childImage s m

/-- The message at the head of ChildQ is taken off. -/
def State.popChildQ (s : State) : State := { s with ts := { s.ts with childQ := s.ts.childQ.tail } }

/-- The TD side of a child dispatch; TS forgets the child (41_thread_spawner.md R224). The counter of free values moves
past the two choices and the number of each register read (log 6 to 8, 24). -/
def startChild (s : State) (m : MsgFields) : State :=
  { s.popChildQ with
    td := { s.td with queue := s.td.queue ++ [childTdReq s m] }
    freeCount := s.freeCount + 3 + (childDescriptor s m).constantUrbReadLength.toNat + m.length.toNat }

/-- The registers a spawn message names lie in an entry, whose length is the record's
(93_implementation_defined.md U12, 45_messages.md R404, R406). -/
def requireUrbRegs (s : State) (m : MsgFields) (count : Nat) (k : Result) : Result :=
  require (decide (m.offset.toNat + count ≤ s.vfe.record.urbEntryAllocationSize.toNat)) .urbEntryOverrun k

/-- DispatchChild, with what it needs (41_thread_spawner.md R224, 45_messages.md R404). That the top bit of the descriptor
offset must be 0 is looked at in this form alone is the model's choice (log 48). -/
def dispatchChild (m : MsgFields) (s : State) : Result :=
  require (decide (m.interfaceDescriptorOffset.toNat ≤ 30)) .fieldOutOfRange <|
  require (decide (m.interfaceDescriptorOffset.toNat < s.rob.idtCount)) .descriptorNotLoaded <|
  requireUrbRegs s m (1 + m.length.toNat) <|
  require (constantsInRange s.params (childDescriptor s m)) .constantsOutOfRange <|
  require (decide ((childImage s m).length ≤ s.params.grfRegisters)) .grfOverflow <|
  .next (startChild s m)

/-- Spawn a child thread: both forms (45_messages.md R404, R405). -/
def spawnChild (m : MsgFields) (s : State) : Result :=
  require (!m.eot) .spawnWithEot <| dispatchChild m s

/-! ### Spawn root -/

/-- What a spawn-root message passes on (41_thread_spawner.md R220). -/
def urbRefOf (m : MsgFields) : UrbRef := ⟨m.handle, m.offset, m.length⟩

/-- RootQ without its head, ChildQ without its head: both taken out at the same time (41_thread_spawner.md R220). -/
def State.popBoth (s : State) : State :=
  { s with ts := { s.ts with rootQ := s.ts.rootQ.tail, childQ := s.ts.childQ.tail } }

/-- The head of RootQ, if it is a synchronized root that may go (41_thread_spawner.md R202, R220). -/
def waitingSynchronizedRoot (s : State) : Option RootReq :=
  match s.ts.rootQ with
  | [] => none
  | r :: _ => if r.control.threadSync && rootEligible s r then some r else none

/-- Spawn a root thread: both forms. Without a synchronized root that may go, ChildQ is held
(45_messages.md R406, R407). -/
def spawnRoot (m : MsgFields) (s : State) : Result :=
  require (!m.eot) .spawnWithEot <|
  match waitingSynchronizedRoot s with
  | none => .next s
  | some r =>
    requireUrbRegs s m m.length.toNat <|
    releaseRoot s.popBoth r (some (urbRefOf m))

/-! ### Dereference and termination -/

/-- What TS remembers under an FFTID (41_thread_spawner.md R216). -/
def outstandingOf (ts : Spawner) (fftid : BitVec 8) : Option Outstanding :=
  ts.outstanding.find? fun o => o.fftid == fftid

/-- A root thread has ended: its FFTID, scratch slot, place, scoreboard entry and record are free
(41_thread_spawner.md R216). -/
def Spawner.retireRoot (ts : Spawner) (o : Outstanding) : Spawner :=
  { ts with
    rootCount := ts.rootCount - 1
    fftids := ts.fftids.filter (· != o.fftid)
    scratch := ts.scratch.filter (·.2 != o.fftid)
    outstanding := ts.outstanding.filter (·.fftid != o.fftid)
    tracking := match o.entry with
      | none => ts.tracking
      | some e => ts.tracking.erase e }

/-- The handle of an outstanding root has had its one dereference (93_implementation_defined.md U20). -/
def Spawner.markDereferenced (ts : Spawner) (fftid : BitVec 8) : Spawner :=
  { ts with
    outstanding := ts.outstanding.map fun o => if o.fftid == fftid then { o with dereferenced := true } else o }

/-- With EOT the root thread `o` ends (45_messages.md R410, R411). -/
def State.endRoot (s : State) (eot : Bool) (o : Outstanding) : State :=
  if eot then { s with ts := s.ts.retireRoot o } else s

/-- TS_DEREF_URB by a root thread (45_messages.md R410). -/
def derefUrbRoot (m : MsgFields) (s : State) : Result :=
  match outstandingOf s.ts m.fftid with
  | none => .refused .unknownFftid
  | some o =>
    require (o.childrenPresent && o.handle == m.handle) .handleNotHeld <|
    require (!o.dereferenced) .secondDereference <|
    .next (({ s.popChildQ with ts := s.popChildQ.ts.markDereferenced m.fftid }.dereference m.handle).endRoot m.eot o)

/-- TS_DEREF_NOURB by a root thread (45_messages.md R411). -/
def derefNourbRoot (m : MsgFields) (s : State) : Result :=
  match outstandingOf s.ts m.fftid with
  | none => .refused .unknownFftid
  | some o => .next (s.popChildQ.endRoot m.eot o)

/-- Opcode 0 by a child thread: no action but the queue entry (45_messages.md R414, R415). -/
def derefChild (s : State) : Result := .next s.popChildQ

end Sys2Proof.Machine
end

