-- ==== Sys2Proof/Machine/SpawnMessages.lean ====
section
/-! DEFINITION. Machine/SpawnMessages.lean: the meanings of the eight thread spawn message forms (45_messages.md R404 to
R415). A meaning is what TS does with the message at the head of ChildQ, which is what its fields are those of
(log 21). -/

namespace Sys2Proof.Machine

open Sys2Proof

/-- TS_DEREF_URB.root (45_messages.md R410). -/
def execTsDerefUrbRoot (m : MsgFields) (s : State) : Result := derefUrbRoot m s

/-- TS_SPAWN_CHILD.root (45_messages.md R404). -/
def execTsSpawnChildRoot (m : MsgFields) (s : State) : Result := spawnChild m s

/-- TS_DEREF_URB.child (45_messages.md R414): no field is read. -/
def execTsDerefUrbChild (_m : MsgFields) (s : State) : Result := derefChild s

/-- TS_SPAWN_CHILD.child (45_messages.md R405). -/
def execTsSpawnChildChild (m : MsgFields) (s : State) : Result := spawnChild m s

/-- TS_DEREF_NOURB.root (45_messages.md R411). -/
def execTsDerefNourbRoot (m : MsgFields) (s : State) : Result := derefNourbRoot m s

/-- TS_SPAWN_ROOT.root (45_messages.md R406). -/
def execTsSpawnRootRoot (m : MsgFields) (s : State) : Result := spawnRoot m s

/-- TS_DEREF_NOURB.child (45_messages.md R415): no field is read. -/
def execTsDerefNourbChild (_m : MsgFields) (s : State) : Result := derefChild s

/-- TS_SPAWN_ROOT.child (45_messages.md R407). -/
def execTsSpawnRootChild (m : MsgFields) (s : State) : Result := spawnRoot m s

end Sys2Proof.Machine
end

