-- ==== Sys2Proof/Machine/StateCommands.lean ====
section
/-! DEFINITION. Machine/StateCommands.lean: the meanings of the five state commands (42_state_commands.md). A meaning is
what VFE does when it takes the command from the stream. -/

namespace Sys2Proof.Machine

open Sys2Proof

/-- The ranges of MEDIA_VFE_STATE's fields (42_state_commands.md R250). -/
def vfeRecordInRange (p : Config.Params) (v : VfeRecord) : Bool :=
  decide (v.stackSize.toNat ≤ 11) && decide (v.perThreadScratchSpace.toNat ≤ 11)
    && decide (v.maximumNumberOfThreads.toNat ≤ p.threadSlots - 1)
    && decide (v.numberOfUrbEntries.toNat ≤ Config.maxUrbEntries)
    && decide (v.urbEntryAllocationSize.toNat ≤ p.robRegisters - 33)
    && decide (v.curbeAllocationSize.toNat ≤ p.robRegisters - 33)

/-- The ROB budget, strict (42_state_commands.md R252). -/
def vfeRecordInBudget (p : Config.Params) (v : VfeRecord) : Bool :=
  decide (v.urbEntryAllocationSize.toNat * v.numberOfUrbEntries.toNat + v.curbeAllocationSize.toNat
    + Config.robReservedRegisters < p.robRegisters)

/-- The relative timer reset and the global timestamp latched (60_exceptions.md R462). -/
def resetTimer (g : Gateway) : Gateway := { g with relative := 0, latchedGlobal := g.globalTime }

/-- The state after the record is written: a fresh handle pool, no CURBE register defined, the timer reset if the
command says so (42_state_commands.md R250; log 7). -/
def writeVfeRecord (s : State) (v : VfeRecord) : State :=
  { s with
    vfe := { s.vfe with record := v, loaded := true, pool := HandlePool.fresh v.numberOfUrbEntries.toNat }
    rob := { s.rob with curbeDefined := 0 }
    gateway := if v.resetGatewayTimer then resetTimer s.gateway else s.gateway }

/-- MEDIA_VFE_STATE (42_state_commands.md R250). That it needs no STATE_BASE_ADDRESS before it is the model's choice
(log 50). -/
def execMediaVfeState (c : MediaVfeState) (s : State) : Result :=
  require (mediaSelected s) .threeDSelected <|
  require (Instr.mediaVfeState c).wellFormed .illegalLength <|
  require (vfeRecordInRange s.params c.fields) .fieldOutOfRange <|
  require (vfeRecordInBudget s.params c.fields) .robBudget <|
  require (vfeStateFlushed s c.fields) .flushMissing <|
  require (noHandleInUse s) .handlesInUse <|
  .next ((writeVfeRecord s c.fields).takeCommand c.dwordLength)

/-- A length and a start address are multiples of 32 (20_memory.md R91). -/
def aligned32 (length : BitVec 17) (address : BitVec 32) : Bool :=
  length.toNat % 32 == 0 && address.toNat % 32 == 0

/-- A load from the Dynamic State space lies below its bound (20_memory.md R95). -/
def belowDynamicBound (s : State) (length : BitVec 17) (address : BitVec 32) : Bool :=
  decide (s.cs.bases.dynamicState + address.toNat + length.toNat ≤ s.cs.bases.dynamicBound)

/-- The registers a load from the Dynamic State space reads (20_memory.md R85, R86). -/
def dynamicRegs (s : State) (length : BitVec 17) (address : BitVec 32) : List Reg :=
  memRegs s.mem s.cs.bases.dynamicState address.toNat (length.toNat / 32)

/-- MEDIA_CURBE_LOAD (42_state_commands.md R256). -/
def execMediaCurbeLoad (c : MediaCurbeLoad) (s : State) : Result :=
  require (mediaSelected s) .threeDSelected <|
  require (Instr.mediaCurbeLoad c).wellFormed .illegalLength <|
  require s.vfe.loaded .vfeStateUnset <|
  require (!s.vfe.primSinceStateFlush) .flushMissing <|
  require (aligned32 c.totalLength c.startAddress) .misaligned <|
  require (decide (c.totalLength.toNat / 32 ≤ s.vfe.record.curbeAllocationSize.toNat)) .curbeTooLong <|
  require (belowDynamicBound s c.totalLength c.startAddress) .beyondBound <|
  .next ((loadCurbe s (dynamicRegs s c.totalLength c.startAddress)).takeCommand c.dwordLength)

/-- MEDIA_INTERFACE_DESCRIPTOR_LOAD (42_state_commands.md R260). -/
def execMediaInterfaceDescriptorLoad (c : MediaInterfaceDescriptorLoad) (s : State) : Result :=
  require (mediaSelected s) .threeDSelected <|
  require (Instr.mediaInterfaceDescriptorLoad c).wellFormed .illegalLength <|
  require (!s.vfe.primSinceStateFlush) .flushMissing <|
  require (aligned32 c.totalLength c.startAddress) .misaligned <|
  require (decide (32 ≤ c.totalLength.toNat) && decide (c.totalLength.toNat ≤ 992)) .fieldOutOfRange <|
  require (belowDynamicBound s c.totalLength c.startAddress) .beyondBound <|
  require ((dynamicRegs s c.totalLength c.startAddress).all (descriptorMbz s.params.modeBits)) .reservedBits <|
  require ((dynamicRegs s c.totalLength c.startAddress).all descriptorInRange) .fieldOutOfRange <|
  .next ((loadDescriptors s (dynamicRegs s c.totalLength c.startAddress)).takeCommand c.dwordLength)

/-- One barrier state written (42_state_commands.md R280). -/
def writeBarrier (s : State) (id : Nat) (b : Barrier) : State :=
  { s with gateway := { s.gateway with barriers := s.gateway.barriers.setIfInBounds id b } }

/-- MEDIA_GATEWAY_STATE (42_state_commands.md R280). That it needs no STATE_BASE_ADDRESS before it is the model's choice
(log 50). -/
def execMediaGatewayState (c : MediaGatewayState) (s : State) : Result :=
  require (mediaSelected s) .threeDSelected <|
  require (Instr.mediaGatewayState c).wellFormed .illegalLength <|
  require (!s.vfe.primSinceStateFlush) .flushMissing <|
  require (decide (c.barrierId.toNat < Config.numBarriers)) .fieldOutOfRange <|
  require (decide (1 ≤ c.threadCount.toNat) && decide (c.threadCount.toNat ≤ Config.maxThreadCount)) .fieldOutOfRange <|
  .next ((writeBarrier s c.barrierId.toNat ⟨c.byte, c.threadCount⟩).takeCommand c.dwordLength)

/-- MEDIA_STATE_FLUSH (42_state_commands.md R284): taken from the stream, then done at once or held in VFE until its
conditions hold. -/
def execMediaStateFlush (c : MediaStateFlush) (s : State) : Result :=
  require (mediaSelected s) .threeDSelected <|
  require (Instr.mediaStateFlush c).wellFormed .illegalLength <|
  .next (stateFlushStep c.threadCountWaterMark c.barrierMask (s.takeCommand c.dwordLength))

end Sys2Proof.Machine
end

