-- ==== Sys2Proof/Machine/Dispatch.lean ====
section
/-! DEFINITION. Machine/Dispatch.lean: each instruction to its meaning. -/

namespace Sys2Proof.Machine

open Sys2Proof

/-- The meaning of each instruction. -/
def exec (i : Instr) (s : State) : Host.Outcome State Fault Refusal :=
  match i with
  | .mediaVfeState c => Sys2Proof.Machine.execMediaVfeState c s
  | .mediaCurbeLoad c => Sys2Proof.Machine.execMediaCurbeLoad c s
  | .mediaInterfaceDescriptorLoad c => Sys2Proof.Machine.execMediaInterfaceDescriptorLoad c s
  | .mediaGatewayState c => Sys2Proof.Machine.execMediaGatewayState c s
  | .mediaStateFlush c => Sys2Proof.Machine.execMediaStateFlush c s
  | .mediaObject c => Sys2Proof.Machine.execMediaObject c s
  | .mediaObjectPrt c => Sys2Proof.Machine.execMediaObjectPrt c s
  | .mediaObjectWalker c => Sys2Proof.Machine.execMediaObjectWalker c s
  | .tsDerefUrbRoot m => Sys2Proof.Machine.execTsDerefUrbRoot m s
  | .tsSpawnChildRoot m => Sys2Proof.Machine.execTsSpawnChildRoot m s
  | .tsDerefUrbChild m => Sys2Proof.Machine.execTsDerefUrbChild m s
  | .tsSpawnChildChild m => Sys2Proof.Machine.execTsSpawnChildChild m s
  | .tsDerefNourbRoot m => Sys2Proof.Machine.execTsDerefNourbRoot m s
  | .tsSpawnRootRoot m => Sys2Proof.Machine.execTsSpawnRootRoot m s
  | .tsDerefNourbChild m => Sys2Proof.Machine.execTsDerefNourbChild m s
  | .tsSpawnRootChild m => Sys2Proof.Machine.execTsSpawnRootChild m s

end Sys2Proof.Machine
end

