-- ==== Sys2Proof/Machine/Turns.lean ====
section
/-! DEFINITION. Machine/Turns.lean: what each agent does when it moves, what each input from outside does, and which
comes next. An input whose condition does not hold has no effect; a turn of a unit that must wait changes nothing
(60_exceptions.md R444; log 5). -/

namespace Sys2Proof.Machine

open Sys2Proof

/-! ### The Command Streamer -/

/-- A state change by the Command Streamer needs a flush since the last primitive command
(70_reset_and_hazards.md R488). -/
def requireFlushed (s : State) (k : Result) : Result := require (!s.vfe.primSinceFlush) .flushMissing k

/-- MI_FLUSH or PIPE_CONTROL: done when nothing is in the pipeline (70_reset_and_hazards.md R486). -/
def csFlush (s : State) : State :=
  if pipelineEmpty s then
    { s.dropStream 1 with
      vfe := { s.vfe with primSinceFlush := false, primSinceStateFlush := false }
      stale := [] }
  else s

/-- An external command at the head of the stream (70_reset_and_hazards.md R484, R491; log 33). That STATE_SIP needs no
STATE_BASE_ADDRESS before it is the model's choice (log 50). -/
def csCommand (c : CsCommand) (s : State) : Result :=
  match c with
  | .flush => .next (csFlush s)
  | .selectPipeline p => requireFlushed s <| .next { s with cs := { s.cs with stream := s.cs.stream.drop 1, pipeline := p } }
  | .setBases b => requireFlushed s <| .next { s with cs := { s.cs with stream := s.cs.stream.drop 1, bases := b } }
  | .setSip a => requireFlushed s <| .next { s with cs := { s.cs with stream := s.cs.stream.drop 1, sip := a } }
  | .arbitration on => .next { s with cs := { s.cs with stream := s.cs.stream.drop 1, arbitrationOn := on } }

/-- The Command Streamer's turn; while a context switch is pending it sends nothing (60_exceptions.md R456). That its own
commands run while VFE still holds a command, or a VFE-entry fence alone holds VFE, is the model's choice (log 42). -/
def csTurn (s : State) : Result :=
  if s.ts.preemptPending then .next s
  else
    match s.cs.stream with
    | .external c :: _ => csCommand c s
    | _ => .next s

/-! ### VFE -/

/-- VFE takes no further command: a VFE-entry fence is set (40_vfe_and_walker.md R163) or a context switch is pending
(60_exceptions.md R456). -/
def vfeHeld (s : State) : Bool := s.ts.fence == .vfeEntry || s.ts.preemptPending

/-- The refusal a rejection of the decoder leads to; `truncated` leads to none. -/
def refusalOf : Reject → Option Refusal
  | .notMediaCommand => some .notMediaCommand
  | .undefinedCommand => some .undefinedCommand
  | .reservedBits => some .reservedBits
  | .truncated => none

/-- A rejected instruction refuses the step; one that is not all there yet waits. -/
def rejected (r : Reject) (s : State) : Result :=
  match refusalOf r with
  | some f => .refused f
  | none => .next s

/-- VFE takes the command at the head of the stream (40_vfe_and_walker.md R163). -/
def vfeTake (s : State) : Result :=
  match decodeCommand (leadingDWords s.cs.stream) with
  | .ok (i, _) => exec i s
  | .error r => rejected r s

/-- VFE's turn: go on with the command it has, else take the next one (40_vfe_and_walker.md R163, R171). -/
def vfeTurn (s : State) : Result :=
  match s.vfe.work with
  | some w => .next (continueWork w s)
  | none => if vfeHeld s then .next s else vfeTake s

/-! ### TS -/

/-- The head of RootQ is taken off. -/
def State.popRootQ (s : State) : State := { s with ts := { s.ts with rootQ := s.ts.rootQ.tail } }

/-- TS serves RootQ: a head that is no synchronized root and is eligible leaves it (41_thread_spawner.md R202, R210). -/
def serveRootQ (s : State) : Result :=
  match s.ts.rootQ with
  | [] => .next s
  | r :: _ => if !r.control.threadSync && rootEligible s r then releaseRoot s.popRootQ r none else .next s

/-- The message holds ChildQ: a spawn-root message with no synchronized root that may go (41_thread_spawner.md R202,
R220). -/
def childQHeld (s : State) (m : SendMsg) : Bool :=
  isSpawnRoot m && !m.eot && (waitingSynchronizedRoot s).isNone

/-- TS serves the message at the head of ChildQ (41_thread_spawner.md R202). -/
def serveMessage (m : SendMsg) (s : State) : Result :=
  match decodeMessage m with
  | .ok i => exec i s
  | .error r => rejected r s

/-- TS's turn: ChildQ before RootQ; RootQ also while a spawn-root message holds ChildQ (41_thread_spawner.md R202;
log 36). -/
def tsTurn (s : State) : Result :=
  match s.ts.childQ with
  | [] => serveRootQ s
  | m :: _ => if childQHeld s m then serveRootQ s else serveMessage m s

/-- TS gives a request it has set aside to TD when its dependencies are clear (41_thread_spawner.md R232). That it may do
so whatever stands at the head of ChildQ is the model's choice (log 15). -/
def tsAside (index : Nat) (s : State) : Result :=
  match s.ts.aside[index]? with
  | none => .next s
  | some a =>
    if rootRoom s && dependenciesClear s.vfe.record s.ts.tracking a.req then
      dispatchRoot { s with ts := { s.ts with aside := s.ts.aside.eraseIdx index } } a.req a.extra
    else .next s

/-- ReadyToPreempt (60_exceptions.md R458; log 19). That ChildQ is empty when it holds no message, whatever child requests
wait at TD and keep entries taken, is the model's choice (log 51). So is that one outstanding root suffices without Fast
Preempt whether it is the PRT or not (log 57). -/
def readyToPreempt (s : State) : Bool :=
  s.vfe.work.isNone && s.ts.rootQ.isEmpty && s.ts.aside.isEmpty
    && (s.vfe.record.fastPreempt || (decide (s.ts.rootCount ≤ 1) && s.ts.childQ.isEmpty))

/-- TS broadcasts the preempt signal when it is due (60_exceptions.md R456). -/
def tsPreempt (s : State) : State :=
  if s.ts.preemptPending && !s.ts.preemptSent && readyToPreempt s then
    { s with ts := { s.ts with preemptSent := true } }
  else s

/-! ### TD and the threads -/

/-- The thread TD creates for a request (41_thread_spawner.md R204, 10_state.md R67). -/
def threadFor (s : State) (q : TdReq) (h : HalfSlice) : Thread where
  id := s.td.nextThread
  kind := match q.kind with
    | .root a => .root a.fftid a.isPrt
    | .child => .child
  ip := s.cs.bases.instruction + q.kernel.toNat * 64
  regs := q.regs
  modes := q.modes
  halfSlice := h
  pending := none
  ended := false

/-- The fence after TD's acknowledge of a root request (41_thread_spawner.md R205). -/
def fenceAfter (a : RootAck) (f : Fence) : Fence :=
  if a.isPrt && a.fenceNeeded then (if a.fenceType then .vfeEntry else .rootQueue) else f

/-- TD acknowledges a request to TS (41_thread_spawner.md R205). -/
def acknowledge (k : TdKind) (s : State) : State :=
  match k with
  | .child => s
  | .root a =>
    let s := if a.childrenPresent then s else s.dereference a.handle
    { s with ts := { s.ts with fence := fenceAfter a s.ts.fence } }

/-- TD serves its first request (41_thread_spawner.md R204). -/
def serveTd (q : TdReq) (h : HalfSlice) (s : State) : State :=
  acknowledge q.kind
    { s with
      td := { queue := s.td.queue.tail
              threads := s.td.threads ++ [threadFor s q h]
              freeSlots := s.td.freeSlots - 1
              nextThread := s.td.nextThread + 1 } }

/-- TD's turn: its first request is served if a slot of a half-slice it may run on is free (41_thread_spawner.md R204,
R236; log 16). -/
def tdTurn (h : HalfSlice) (s : State) : State :=
  match s.td.queue with
  | [] => s
  | q :: _ => if decide (0 < s.td.freeSlots) && halfSliceFits q.halfSlice h then serveTd q h s else s

/-- The thread of this name. -/
def threadOf (td : Dispatcher) (id : Nat) : Option Thread := td.threads.find? fun t => t.id == id

/-- One thread replaced. -/
def Dispatcher.setThread (td : Dispatcher) (t : Thread) : Dispatcher :=
  { td with threads := td.threads.map fun u => if u.id == t.id then t else u }

/-- What a thread finds in one of its registers (10_state.md R65; log 23). -/
def Thread.readGrf (t : Thread) (r : Nat) : Reg := t.regs.getD r (Config.undefinedGrf t.id r)

/-- A thread comes to a SEND to TS and is held there (10_state.md R51; log 22). -/
def threadSend (id : Nat) (m : SendMsg) (s : State) : State :=
  match threadOf s.td id with
  | none => s
  | some t =>
    if t.ended || t.pending.isSome then s else { s with td := s.td.setThread { t with pending := some m } }

/-- The message enters ChildQ; a spawn message clears the PRT fence; EOT ends the thread (41_thread_spawner.md R203,
45_messages.md R401, R408). -/
def acceptMessage (t : Thread) (m : SendMsg) (s : State) : State :=
  { s with
    ts := { s.ts with
            childQ := s.ts.childQ ++ [m]
            fence := if isSpawn m then .none else s.ts.fence }
    td := s.td.setThread { t with pending := none, ended := m.eot } }

/-- The child requests TS has made that TD cannot accept: those behind as many requests as there are free slots
(60_exceptions.md R446; log 16). -/
def unacceptedChildren (td : Dispatcher) : Nat := (td.queue.drop td.freeSlots).countP fun q => q.kind == .child

/-- The entries of ChildQ that TS has not told the bus arbiter are free: the messages TS has not taken, and the child
requests TD cannot accept (10_state.md R51, 41_thread_spawner.md R227, 60_exceptions.md R446; log 16). -/
def childQEntries (s : State) : Nat := s.ts.childQ.length + unacceptedChildren s.td

/-- The message bus lets a held SEND into ChildQ if there is room (41_thread_spawner.md R203, R227; what counts: log 16);
MBZ bits that are not zero are refused (93_implementation_defined.md U1). -/
def busAccept (id : Nat) (s : State) : Result :=
  match threadOf s.td id with
  | none => .next s
  | some t =>
    match t.pending with
    | none => .next s
    | some m =>
      if childQEntries s < s.params.childQueueDepth then
        require (messageMbz m) .reservedBits <| .next (acceptMessage t m s)
      else .next s

/-- An ended thread's slot is free again (45_messages.md R401, 10_state.md R62). -/
def threadRetire (id : Nat) (s : State) : State :=
  match threadOf s.td id with
  | none => s
  | some t =>
    if t.ended then
      { s with td := { s.td with threads := s.td.threads.filter (·.id != id), freeSlots := s.td.freeSlots + 1 } }
    else s

/-- A child thread ends with a Gateway message carrying EOT; TS does nothing (45_messages.md R418). -/
def gatewayEot (id : Nat) (s : State) : Result :=
  match threadOf s.td id with
  | none => .next s
  | some t =>
    if t.ended || t.pending.isSome then .next s
    else
      match t.kind with
      | .child => .next { s with td := s.td.setThread { t with ended := true } }
      | .root _ _ => .refused .gatewayEotByRoot

/-- A thread writes a register of a URB entry (45_messages.md R391); outside the entry nothing is written (log 24). -/
def urbWrite (h : BitVec 16) (offset : Nat) (v : Reg) (s : State) : State :=
  if s.vfe.pool.has h && decide (offset < s.vfe.record.urbEntryAllocationSize.toNat) then
    { s with rob := s.rob.write s.params.robRegisters (urbEntryBase s.vfe.record h + offset) v }
  else s

/-! ### The context switch -/

/-- The interrupt, between commands and with arbitration on (60_exceptions.md R455, R456). That it counts while an MI_FLUSH
stalls at the head of the stream, since VFE alone is looked at, is the model's choice (log 56). -/
def contextSwitch (s : State) : State :=
  if s.cs.arbitrationOn && s.vfe.work.isNone && !s.ts.preemptPending then
    { s with ts := { s.ts with preemptPending := true } }
  else s

/-- No thread is outstanding, and the signal has been sent (60_exceptions.md R456; log 19; ChildQ empty: log 51). -/
def switchReady (s : State) : Bool :=
  s.ts.preemptPending && s.ts.preemptSent && s.vfe.work.isNone && s.ts.rootQ.isEmpty && s.ts.aside.isEmpty
    && s.ts.childQ.isEmpty && s.ts.rootCount == 0 && s.vfe.pool.allFree

/-- The switch completes: the next context's stream; nothing in flight (60_exceptions.md R456, R460; log 19). That the mark
of the last MEDIA_OBJECT_PRT goes with the old context is the model's choice (log 43). -/
def switchComplete (stream : List StreamItem) (s : State) : State :=
  if switchReady s then
    { s with
      cs := { s.cs with stream := stream }
      vfe := { s.vfe with lastPrt := none }
      ts := { s.ts with preemptPending := false, preemptSent := false, fence := .none } }
  else s

/-- ContextRestore: the saved MEDIA_OBJECT_PRT is executed again, with Thread Restart Enable (60_exceptions.md R459;
log 20). -/
def contextRestore (prt : MediaObjectPrt) (s : State) : Result :=
  if s.vfe.work.isSome || vfeHeld s then .next s
  else requirePrt s prt <| .next (generatePrt prt true s)

/-! ### What happens next -/

/-- One event. -/
def handle (e : Event) (s : State) : Result :=
  match e with
  | .csTurn => csTurn s
  | .vfeTurn => vfeTurn s
  | .tsTurn => tsTurn s
  | .tsAside i => tsAside i s
  | .tsPreempt => .next (tsPreempt s)
  | .tdTurn h => .next (tdTurn h s)
  | .busAccept t => busAccept t s
  | .threadRetire t => .next (threadRetire t s)
  | .deliver items => .next { s with cs := { s.cs with stream := s.cs.stream ++ items } }
  | .threadSend t m => .next (threadSend t m s)
  | .gatewayEot t => gatewayEot t s
  | .urbWrite h o v => .next (urbWrite h o v s)
  | .memWrite a bytes => .next { s with mem := Memory.write s.mem a bytes }
  | .gatewayTick r g =>
    .next { s with gateway := { s.gateway with relative := s.gateway.relative + r
                                               globalTime := s.gateway.globalTime + g } }
  | .barrierReport clear => .next { s with gateway := { s.gateway with reportedClear := clear } }
  | .contextSwitch => .next (contextSwitch s)
  | .switchComplete stream => .next (switchComplete stream s)
  | .contextRestore prt => contextRestore prt s

/-- Everything an agent could do of its own accord: the turns a free value chooses among when nothing else is to come
(log 5). -/
def ownTurns (s : State) : List Event :=
  [.csTurn, .vfeTurn, .tsTurn, .tsPreempt, .tdTurn .zero, .tdTurn .one]
    ++ (List.range s.ts.aside.length).map .tsAside
    ++ s.td.threads.map (fun t => .busAccept t.id) ++ s.td.threads.map (fun t => .threadRetire t.id)

/-- What happens next, and the state in which it happens. -/
def nextEvent (s : State) : Event × State :=
  match s.agenda with
  | e :: rest => (e, { s with agenda := rest })
  | [] => (Sys2Proof.Machine.pick (ownTurns s) .csTurn s.freeCount, { s with freeCount := s.freeCount + 1 })

/-- One step: what happens next, happens. -/
def oneStep (s : State) : Result := handle (nextEvent s).1 (nextEvent s).2

/-! ### Placing an instruction -/

/-- A command placed at the head of the stream, and VFE's turn next: Media selected, VFE free and not held. -/
def placeCommand (s : State) (ds : List DWord) : State :=
  { s with
    cs := { s.cs with stream := ds.map .dword ++ s.cs.stream, pipeline := .media }
    vfe := { s.vfe with work := none }
    ts := { s.ts with fence := if s.ts.fence = .vfeEntry then .none else s.ts.fence, preemptPending := false }
    agenda := .vfeTurn :: s.agenda }

/-- A message placed at the head of ChildQ, and TS's turn next. -/
def placeMessage (s : State) (m : SendMsg) : State :=
  { s with ts := { s.ts with childQ := m :: s.ts.childQ }, agenda := .tsTurn :: s.agenda }

/-- An instruction placed where it is fetched. -/
def placePacket (s : State) : Packet → State
  | .command ds => placeCommand s ds
  | .message m => placeMessage s m

end Sys2Proof.Machine
end

