-- ==== Sys2Proof/Machine/Step.lean ====
section
/-! DEFINITION. Machine/Step.lean: one step of the machine, and where an instruction is fetched. -/

namespace Sys2Proof.Machine

open Sys2Proof

/-- One step: the next event of the agenda, or a turn of an agent that a free value picks. -/
def step (s : State) : Host.Outcome State Fault Refusal := oneStep s

/-- The state with one instruction placed where the next step fetches it: a command at the head of the command stream
with VFE's turn next, a message at the head of ChildQ with TS's turn next (log 2). -/
def State.withFetchWord (s : State) (nbits w : Nat) : State := placePacket s (tablePacket nbits w)

end Sys2Proof.Machine
end

