-- ==== Sys2Proof/Machine/MacroblockFormats.lean ====
section
/-! DEFINITION. Machine/MacroblockFormats.lean: the macroblock data formats of 44_macroblock_data_formats.md, as layouts
and derivations a kernel follows. No instruction reads them (R340: "Hardware does not interpret this data; it merely
passes it to the kernel"; log 29). `none` stands where the source prints Reserved, n/a or nothing. -/

namespace Sys2Proof.Machine.Macroblock

open Sys2Proof

/-! ### AVC inline data, DWords 3 to 5 (R342 to R345) -/

/-- MbIntraStruct, inline DWord 3 bits 7:0 (R342). Table 1-3 tags bit 5, `availF`, with [DevILK] alone; that it is a
field on this device too is the model's choice (log 44). -/
structure IntraStruct where
  chromaIntraPredMode : BitVec 2
  availF : Bool
  availE : Bool
  availD : Bool
  availC : Bool
  availB : Bool
  availA : Bool
deriving DecidableEq, Repr

/-- MbIntraStruct from inline DWord 3 (R342; bit 5: log 44). -/
def intraStructOf (dw3 : DWord) : IntraStruct where
  chromaIntraPredMode := bits dw3 6 2
  availF := flag dw3 5
  availE := flag dw3 4
  availD := flag dw3 3
  availC := flag dw3 2
  availB := flag dw3 1
  availA := flag dw3 0

/-- LumaIntraPredModes[i] from inline DWords 4 and 5 (R342). -/
def lumaIntraPredModes (dw4 dw5 : DWord) (i : Nat) : BitVec 16 :=
  bits (if i < 2 then dw4 else dw5) (16 * (i % 2)) 16

/-- One 4-bit mode of a LumaIntraPredModes word. -/
def modeNibble (w : BitVec 16) (n : Nat) : BitVec 4 := w.extractLsb' (4 * n) 4

/-- The mode of Block4x4 `b` (R344). -/
def intra4x4Mode (dw4 dw5 : DWord) (b : Nat) : BitVec 4 := modeNibble (lumaIntraPredModes dw4 dw5 (b / 4)) (b % 4)

/-- The mode of Block8x8 `b` (R344). -/
def intra8x8Mode (dw4 dw5 : DWord) (b : Nat) : BitVec 4 := modeNibble (lumaIntraPredModes dw4 dw5 0) b

/-- The Intra16x16 mode (R344). -/
def intra16x16Mode (dw4 dw5 : DWord) : BitVec 4 := modeNibble (lumaIntraPredModes dw4 dw5 0) 0

/-- Which column of Table 1-5 applies (R344). -/
inductive IntraColumn where
  | intra16x16
  | intra8x8
  | intra4x4
deriving DecidableEq, Repr

/-- The column from MbType and Transform8x8Flag (R344). -/
def intraColumn (mbType : Nat) (transform8x8 : Bool) : Option IntraColumn :=
  if 1 ≤ mbType ∧ mbType ≤ 24 then (if transform8x8 then none else some .intra16x16)
  else if mbType = 0 then some (if transform8x8 then .intra8x8 else .intra4x4)
  else none

/-- The MBZ cells of Table 1-5 are zero: word 0 bits 15:4 and words 1 to 3 of Intra16x16, words 1 to 3 of Intra8x8 (R344). -/
def intraModesMbz (c : IntraColumn) (dw4 dw5 : DWord) : Bool :=
  match c with
  | .intra16x16 => mbz dw4 4 28 && mbz dw5 0 32
  | .intra8x8 => mbz dw4 16 16 && mbz dw5 0 32
  | .intra4x4 => true

/-- Intra16x16PredMode (R345). -/
inductive Intra16x16PredMode where
  | vertical
  | horizontal
  | dc
  | plane
deriving DecidableEq, Repr

/-- Intra8x8PredMode and Intra4x4PredMode, which have the same values (R345). -/
inductive IntraNxNPredMode where
  | vertical
  | horizontal
  | dc
  | diagonalDownLeft
  | diagonalDownRight
  | verticalRight
  | horizontalDown
  | verticalLeft
  | horizontalUp
deriving DecidableEq, Repr

/-- Table 1-6 (R345). -/
def intra16x16PredMode (v : BitVec 4) : Option Intra16x16PredMode :=
  [.vertical, .horizontal, .dc, .plane][v.toNat]?

/-- Tables 1-7 and 1-8 (R345). -/
def intraNxNPredMode (v : BitVec 4) : Option IntraNxNPredMode :=
  [.vertical, .horizontal, .dc, .diagonalDownLeft, .diagonalDownRight, .verticalRight, .horizontalDown, .verticalLeft,
   .horizontalUp][v.toNat]?

/-- Inline DWords 3 to 5 of an inter macroblock (R343). -/
structure InterInline where
  log2WeightDenomChroma : BitVec 8
  log2WeightDenomLuma   : BitVec 8
  subMbPredMode         : Vector (BitVec 2) 4
  subMbShape            : Vector (BitVec 2) 4
  bindingTableForward   : Vector (BitVec 8) 4
  bindingTableBackward  : Vector (BitVec 8) 4
deriving DecidableEq, Repr

/-- Four bytes of a DWord, block 0 lowest. -/
def fourBytes (w : DWord) : Vector (BitVec 8) 4 := #v[bits w 0 8, bits w 8 8, bits w 16 8, bits w 24 8]

/-- Four 2-bit fields from bit `lo` up, block 0 lowest. -/
def fourPairs (w : DWord) (lo : Nat) : Vector (BitVec 2) 4 :=
  #v[bits w lo 2, bits w (lo + 2) 2, bits w (lo + 4) 2, bits w (lo + 6) 2]

/-- The fields from DWords 3, 4, 5 (R343). -/
def interInlineOf (dw3 dw4 dw5 : DWord) : InterInline where
  log2WeightDenomChroma := bits dw3 24 8
  log2WeightDenomLuma := bits dw3 16 8
  subMbPredMode := fourPairs dw3 8
  subMbShape := fourPairs dw3 0
  bindingTableForward := fourBytes dw4
  bindingTableBackward := fourBytes dw5

/-! ### Blocks and macroblock types (R346 to R351) -/

/-- Figure 1-9: the number of the Block4x4 in each place of a 16x16 region, row by row (R346). -/
def figure19 : List (List Nat) := [[0, 1, 4, 5], [2, 3, 6, 7], [8, 9, 12, 13], [10, 11, 14, 15]]

/-- Column and row of Block4x4 `b`, in units of 4 pixels (R346). -/
def block4x4Place (b : Nat) : Nat × Nat := (2 * ((b / 4) % 2) + b % 2, 2 * (b / 8) + (b % 4) / 2)

/-- Figure 1-10: the number of the Block8x8 in each place of a 16x16 region, and of the Block4x4 in each place of an 8x8
region, row by row (R346). -/
def figure110 : List (List Nat) := [[0, 1], [2, 3]]

/-- Column and row of Block8x8 `b` of a 16x16 region, or Block4x4 `b` of an 8x8 region, in units of a block (R346). -/
def quarterPlace (b : Nat) : Nat × Nat := (b % 2, b / 2)

/-- A slice's type. -/
inductive Slice where
  | i
  | p
  | b
deriving DecidableEq, Repr

/-- The numbers a, b, c of the name I_16x16_a_b_c of an intra MbType 1..24 (R347). -/
def intra16x16Name (mbType : Nat) : Option (Nat × Nat × Nat) :=
  if 1 ≤ mbType ∧ mbType ≤ 24 then some ((mbType - 1) % 4, (mbType - 1) / 4 % 3, (mbType - 1) / 12) else none

/-- The type of an intra macroblock (R347). -/
inductive IntraType where
  /-- I_NxN. -/
  | nxn
  /-- I_16x16_a_b_c. -/
  | sixteen (a b c : Nat)
  /-- I_PCM. -/
  | pcm
deriving DecidableEq, Repr

/-- The intra column of Table 1-9; 26 and above are Reserved (R347). -/
def intraType (mbType : Nat) : Option IntraType :=
  if mbType = 0 then some .nxn
  else if mbType = 25 then some .pcm
  else (intra16x16Name mbType).map fun n => .sixteen n.1 n.2.1 n.2.2

/-- MbType and IntraMbFlag from mb_type (R348). -/
def mbTypeOf (slice : Slice) (mbTypeSyntax : Nat) : Option (Nat × Bool) :=
  match slice with
  | .i => if mbTypeSyntax ≤ 25 then some (mbTypeSyntax, true) else none
  | .p =>
    if mbTypeSyntax ≤ 4 then some ([1, 4, 5, 22, 22].getD mbTypeSyntax 0, false)
    else if mbTypeSyntax ≤ 30 then some (mbTypeSyntax - 5, true)
    else none
  | .b =>
    if mbTypeSyntax = 0 then some (22, false)
    else if mbTypeSyntax ≤ 22 then some (mbTypeSyntax, false)
    else if mbTypeSyntax ≤ 48 then some (mbTypeSyntax - 23, true)
    else none

/-- Prediction of a partition. -/
inductive Pred where
  | l0
  | l1
  | bi
deriving DecidableEq, Repr

/-- The SubMbPredMode value of a prediction (R349). -/
def Pred.code : Pred → Nat
  | .l0 => 0
  | .l1 => 1
  | .bi => 2

/-- How an inter macroblock is divided. -/
inductive Shape where
  | whole (p : Pred)
  /-- Two partitions above each other, 16x8. -/
  | rows (p q : Pred)
  /-- Two partitions side by side, 8x16. -/
  | columns (p q : Pred)
  /-- BP_8x8. -/
  | eights
deriving DecidableEq, Repr

/-- The predictions of MbType 4, 6, 8, .. 20, in the order of Table 1-9 (R347). -/
def pairNames : List (Pred × Pred) :=
  [(.l0, .l0), (.l1, .l1), (.l0, .l1), (.l1, .l0), (.l0, .bi), (.l1, .bi), (.bi, .l0), (.bi, .l1), (.bi, .bi)]

/-- The inter column of Table 1-9 (R347). -/
def interShape (mbType : Nat) : Option Shape :=
  if mbType = 1 then some (.whole .l0)
  else if mbType = 2 then some (.whole .l1)
  else if mbType = 3 then some (.whole .bi)
  else if mbType = 22 then some .eights
  else
    match pairNames[(mbType - 4) / 2]? with
    | some (p, q) =>
      if mbType < 4 then none else if mbType % 2 = 0 then some (.rows p q) else some (.columns p q)
    | none => none

/-- Which of two partitions 8x8 block `i` lies in, by its place of Figure 1-10: the upper one has blocks 0, 1, the left
one blocks 0, 2 (R346, R351). -/
def inFirst (columns : Bool) (i : Nat) : Bool :=
  if columns then (quarterPlace i).1 == 0 else (quarterPlace i).2 == 0

/-- The prediction of 8x8 block `i` where it follows from the shape (R351). -/
def Shape.predOf (s : Shape) (i : Nat) : Option Pred :=
  match s with
  | .whole p => some p
  | .rows p q => some (if inFirst false i then p else q)
  | .columns p q => some (if inFirst true i then p else q)
  | .eights => none

/-- SubMbPredMode[i] of an inter macroblock that is not BP_8x8, Table 1-15 (R351). -/
def subMbPredModeOf (mbType i : Nat) : Option Nat :=
  match interShape mbType with
  | some s => (s.predOf i).map Pred.code
  | none => none

/-- SubMbShape of each 8x8 block of an inter macroblock that is not BP_8x8: forced to 0 (R343, R349, R351). -/
def subMbShapeOf (mbType : Nat) : Option Nat :=
  match interShape mbType with
  | some .eights => none
  | some _ => some 0
  | none => none

/-- NumSubMbPart, width, height of a SubMbShape (R349). -/
def subMbShapeParts (shape : Nat) : Option (Nat × Nat × Nat) :=
  [(1, 8, 8), (2, 8, 4), (2, 4, 8), (4, 4, 4)][shape]?

/-- sub_mb_type as Tables 1-13 and 1-14 list it: a coded number, or inferred from mb_type (R350). -/
inductive SubMbType where
  | coded (t : Nat)
  | inferred
deriving DecidableEq, Repr

/-- SubMbShape and SubMbPredMode from sub_mb_type of a P macroblock, Table 1-13, where inferred is n/a (R350). -/
def subMbTypeP : SubMbType → Option (Nat × Pred)
  | .coded t => if t ≤ 3 then some (t, .l0) else none
  | .inferred => none

/-- SubMbShape and prediction from sub_mb_type of a B macroblock, Table 1-14; a prediction of `none` is Direct, whose
SubMbPredMode is blank in the source (R350). -/
def subMbTypeB : SubMbType → Option (Nat × Option Pred)
  | .coded t =>
    [(3, none), (0, some Pred.l0), (0, some .l1), (0, some .bi), (1, some .l0), (2, some .l0), (1, some .l1),
     (2, some .l1), (1, some .bi), (2, some .bi), (3, some .l0), (3, some .l1), (3, some .bi)][t]?
  | .inferred => some (3, none)

/-! ### Motion vectors (R352 to R357) -/

/-- The combined motion vector states (R352). -/
inductive MvState where
  | b0
  | b1
  | b2
  | p3
  | b3
deriving DecidableEq, Repr

/-- The motion vector states of a P or B macroblock, Table 1-16 (R352). -/
inductive MbMvState where
  | p0
  | p1
  | p2
  | p3
  | b0
  | b1
  | b2
  | b3
deriving DecidableEq, Repr

/-- Which reference lists a state's motion vectors may use, Table 1-16 (R352). -/
inductive ReferenceLists where
  /-- n/a: it has no motion vector. -/
  | none
  | l0
  /-- L0, L1 or Bi. -/
  | any
deriving DecidableEq, Repr

/-- Max # MVs of Table 1-16 (R352). -/
def MbMvState.maxMvs : MbMvState → Nat
  | .p0 => 0
  | .p1 => 1
  | .p2 => 4
  | .p3 => 16
  | .b0 => 0
  | .b1 => 2
  | .b2 => 8
  | .b3 => 32

/-- Reference lists of Table 1-16 (R352). -/
def MbMvState.lists : MbMvState → ReferenceLists
  | .p0 => .none
  | .p1 => .l0
  | .p2 => .l0
  | .p3 => .l0
  | .b0 => .none
  | .b1 => .any
  | .b2 => .any
  | .b3 => .any

/-- cMvState of Table 1-16: P0, P1, P2 are merged with B0, B1, B2 (R352). -/
def MbMvState.combined : MbMvState → MvState
  | .p0 => .b0
  | .p1 => .b1
  | .p2 => .b2
  | .p3 => .p3
  | .b0 => .b0
  | .b1 => .b1
  | .b2 => .b2
  | .b3 => .b3

/-- MvSize of a combined state (R352). -/
def MvState.size : MvState → Nat
  | .b0 => 0
  | .b1 => 2
  | .b2 => 8
  | .p3 => 16
  | .b3 => 32

/-- The combined motion vector state from the macroblock parameters, Table 1-17 (R353). -/
def mvStateOf (intra : Bool) (mbType maxSubMbShape maxSubMbPredMode : Nat) : Option MvState :=
  if intra then some .b0
  else if 1 ≤ mbType ∧ mbType ≤ 3 then some .b1
  else if 4 ≤ mbType ∧ mbType ≤ 21 then some .b2
  else if mbType = 22 then
    if maxSubMbShape = 0 then some .b2 else if maxSubMbPredMode < 2 then some .p3 else some .b3
  else none

/-- MvSize from the macroblock parameters (R353). -/
def mvSize (intra : Bool) (mbType maxSubMbShape maxSubMbPredMode : Nat) : Option Nat :=
  (mvStateOf intra mbType maxSubMbShape maxSubMbPredMode).map MvState.size

/-- The greatest of four 2-bit fields: Max(SubMbShape[]) and Max(SubMbPredMode[]) of Table 1-17 (R353). -/
def maxOfFour (v : Vector (BitVec 2) 4) : Nat := v.toList.foldl (fun m x => max m x.toNat) 0

/-- MvSize(IntraMbFlag, MbType, SubMbShape[0..3], SubMbPredMode[0..3]) (R353). -/
def mvSizeOf (intra : Bool) (mbType : Nat) (shapes modes : Vector (BitVec 2) 4) : Option Nat :=
  mvSize intra mbType (maxOfFour shapes) (maxOfFour modes)

/-- Column "Extract MV #" of Table 1-17, the least and the greatest number of motion vectors of an inter macroblock
(R353). -/
def extractMvs (mbType maxSubMbShape maxSubMbPredMode : Nat) : Option (Nat × Nat) :=
  if mbType = 1 ∨ mbType = 2 then some (1, 1)
  else if mbType = 3 then some (2, 2)
  else if 4 ≤ mbType ∧ mbType ≤ 11 then some (2, 2)
  else if 12 ≤ mbType ∧ mbType ≤ 19 then some (3, 3)
  else if mbType = 20 ∨ mbType = 21 then some (4, 4)
  else if mbType = 22 then
    if maxSubMbShape = 0 then some (if maxSubMbPredMode < 2 then (4, 4) else (5, 8))
    else some (if maxSubMbPredMode < 2 then (5, 16) else (6, 32))
  else none

/-- Motion vector DWords, Table 1-18 (R355). -/
def mvDWords (size : Nat) : Nat := if size = 2 then 4 else size

/-- Weight-offset DWords, Table 1-18 (R355). -/
def woDWords (size : Nat) : Nat := if size = 0 then 0 else if size = 2 then 4 else 16

/-- W/O count, Table 1-18: the 8x8 blocks a weight-offset block has entries of (R355). -/
def woCount (size : Nat) : Nat := if size = 0 then 0 else if size = 2 then 1 else 4

/-- The motion vector block: the first DWords of the indirect data (R355, R362). -/
def mvBlock (indirect : List DWord) (size : Nat) : List DWord := indirect.take (mvDWords size)

/-- The weight-offset block, where there is one, is packed behind the motion vector block (R355, R362). -/
def weightBlock (indirect : List DWord) (size : Nat) : List DWord :=
  (indirect.drop (mvDWords size)).take (woDWords size)

/-- The DWord offset of the packed coefficient block (R355). -/
def packedCoefficientOffset (size : Nat) (weights : Bool) : Nat :=
  8 * ceil8 (mvDWords size + if weights then woDWords size else 0)

/-- The DWord of the motion vector block that holds block `k`'s L0 (`l1 = false`) or L1 vector, Table 1-19 (R357). -/
def mvDWordIndex (size k : Nat) (l1 : Bool) : Option Nat :=
  if size = 16 then (if l1 || decide (16 ≤ k) then none else some k)
  else if (size = 2 ∧ k = 0) ∨ (size = 8 ∧ k < 4) ∨ (size = 32 ∧ k < 16) then some (2 * k + l1.toNat)
  else none

/-- A motion vector: horizontal in bits 15:0, vertical in bits 31:16 (R357). -/
structure Mv where
  horz : BitVec 16
  vert : BitVec 16
deriving DecidableEq, Repr

/-- The motion vector of a DWord (R357). -/
def mvOf (w : DWord) : Mv := ⟨bits w 0 16, bits w 16 16⟩

/-- Block `k`'s L0 or L1 vector of a motion vector block (R357). -/
def blockMv (block : List DWord) (size k : Nat) (l1 : Bool) : Option Mv :=
  (mvDWordIndex size k l1).map fun d => mvOf (dw block d)

/-- The MBZ DWords of a motion vector block are zero: DWords 2 and 3 of MvSize 2 (R357). -/
def mvBlockMbz (block : List DWord) (size : Nat) : Bool := size != 2 || (dw block 2 == 0 && dw block 3 == 0)

/-- Rule #1.1 and #1.2: a missing direction takes the other one's value (R356; for binding table indices R354). -/
def fillMissing {α : Type} (l0 l1 : Option α) : Option (α × α) :=
  match l0, l1 with
  | some a, some b => some (a, b)
  | some a, none => some (a, a)
  | none, some b => some (b, b)
  | none, none => none

/-- What a prediction has of two lists' values. -/
def Pred.select {α : Type} (p : Pred) (l0 l1 : α) : Option α × Option α :=
  match p with
  | .l0 => (some l0, none)
  | .l1 => (none, some l1)
  | .bi => (some l0, some l1)

/-- The pair of 8x8 block `i` of a macroblock in one or two partitions, from each partition's L0 and L1 values: the
replication of vectors (R356) and of binding table indices, forward and backward (R354). -/
def blockPair {α : Type} (s : Shape) (first second : α × α) (i : Nat) : Option (α × α) :=
  match s with
  | .whole p => fillMissing (p.select first.1 first.2).1 (p.select first.1 first.2).2
  | .rows p q =>
    if inFirst false i then fillMissing (p.select first.1 first.2).1 (p.select first.1 first.2).2
    else fillMissing (q.select second.1 second.2).1 (q.select second.1 second.2).2
  | .columns p q =>
    if inFirst true i then fillMissing (p.select first.1 first.2).1 (p.select first.1 first.2).2
    else fillMissing (q.select second.1 second.2).1 (q.select second.1 second.2).2
  | .eights => none

/-- The vector of 4x4 block `j` (0..3) of an 8x8 block, from the vectors of its sub-partitions in order: one for 8x8, by
rows for 8x4, by columns for 4x8, its own for 4x4 (R356). -/
def subBlockOf {α : Type} (shape : Nat) (parts : List α) (j : Nat) : Option α :=
  if shape = 0 then parts[0]?
  else if shape = 1 then parts[j / 2]?
  else if shape = 2 then parts[j % 2]?
  else if shape = 3 then parts[j]?
  else none

/-- The forward and backward value of an 8x8 block of BP_8x8, from the values its vectors have in each direction: the
first found in each, a missing direction filled from the other: binding table indices (R354), implicit weights (R359). -/
def searchPair {α : Type} (l0 l1 : List (Option α)) : Option (α × α) :=
  fillMissing (l0.findSome? id) (l1.findSome? id)

/-- The pair of 8x8 block `i`: of one or two partitions from `first` and `second`, of BP_8x8 from what the vectors of the
block have. The eight binding table indices (R354), and in the same manner the implicit weights of MvSize 8, 16 and 32
(R359). -/
def replicatedPair {α : Type} (mbType : Nat) (first second : α × α)
    (eights : Nat → List (Option α) × List (Option α)) (i : Nat) : Option (α × α) :=
  match interShape mbType with
  | none => none
  | some .eights => searchPair (eights i).1 (eights i).2
  | some s => blockPair s first second i

/-! ### Weights and offsets (R358, R359) -/

/-- A weight and its offset (R358). -/
structure WeightOffset where
  offset : BitVec 8
  weight : BitVec 8
deriving DecidableEq, Repr

/-- The offset byte above the weight byte of a 16-bit field (R358). -/
def weightOffsetOf (w : BitVec 16) : WeightOffset := ⟨w.extractLsb' 8 8, w.extractLsb' 0 8⟩

/-- The plane a weight is for. -/
inductive Plane where
  | y
  | cb
  | cr
deriving DecidableEq, Repr

/-- A plane's DWord among the four of an 8x8 block (R358, R359). -/
def Plane.dword : Plane → Nat
  | .y => 0
  | .cb => 1
  | .cr => 2

/-- The 16-bit field of 8x8 block `b`, a plane and a direction: bits 31:16 are L1, bits 15:0 L0. A block beyond the W/O
count is n/a: MvSize 2 has block 0 alone, MvSize 0 none (R358, R359). -/
def weightField (block : List DWord) (size b : Nat) (c : Plane) (l1 : Bool) : Option (BitVec 16) :=
  if b < woCount size then some (bits (dw block (4 * b + c.dword)) (if l1 then 16 else 0) 16) else none

/-- DWord 4b + 3 of every block is zero. The nibble of DWord 4b + 3 is tagged [DevILK] alone: MBZ on this device
(R358, R359). -/
def weightBlockMbz (block : List DWord) (size : Nat) : Bool :=
  (List.range (woCount size)).all fun b => dw block (4 * b + 3) == 0

/-- An explicit weight and offset from the weight-offset block (R358). -/
def explicitWeight (block : List DWord) (size b : Nat) (c : Plane) (l1 : Bool) : Option WeightOffset :=
  (weightField block size b c l1).map weightOffsetOf

/-- An implicit weight, 9 bits sign extended into 16; its offset is zero (R359). -/
def implicitWeight (block : List DWord) (size b : Nat) (c : Plane) (l1 : Bool) : Option Int :=
  (weightField block size b c l1).map BitVec.toInt

/-- What a weight-offset block holds. -/
inductive Weight where
  | explicit (w : WeightOffset)
  | implicit (w : Int)
deriving DecidableEq, Repr

/-- WeightedBiPredFlag selects the layout: binary 10 the implicit weights, every other value the explicit ones
(R358, R359). -/
def weightOf (weightedBiPredFlag : BitVec 2) (block : List DWord) (size b : Nat) (c : Plane) (l1 : Bool) : Option Weight :=
  if weightedBiPredFlag = 0b10 then (implicitWeight block size b c l1).map .implicit
  else (explicitWeight block size b c l1).map .explicit

/-- The implicit weights of a macroblock of MvSize 2, L0 and L1 (R359). -/
def implicitPair {α : Type} (mbType : Nat) (l0 l1 : α) : Option (α × α) :=
  match interShape mbType with
  | some (.whole p) => fillMissing (p.select l0 l1).1 (p.select l0 l1).2
  | _ => none

/-! ### Residual data (R360, R372) -/

/-- One non-zero coefficient (R360). -/
structure Coefficient where
  value : BitVec 16
  index : BitVec 6
  /-- Last of its transform block. -/
  eob   : Bool
deriving DecidableEq, Repr

/-- A coefficient from its DWord; bits 15:7 are MBZ (R360). That its value may be 0 in every block, which R363 says of the
intra-coded blocks of VC1 alone, is the model's choice (log 55). -/
def coefficientOf (w : DWord) : Option Coefficient :=
  if mbz w 7 9 then some ⟨bits w 16 16, bits w 1 6, flag w 0⟩ else none

/-- The DWord of a coefficient (R360). -/
def coefficientDWord (c : Coefficient) : DWord := c.value ++ 0#9 ++ c.index ++ bit c.eob

/-- The index of a place in a transform block of some width (R360). -/
def coefficientIndex (width row column : Nat) : Nat := row * width + column

/-- The 8x8 blocks of a macroblock (R360). -/
inductive ResidualBlock where
  | y0
  | y1
  | y2
  | y3
  | cb4
  | cr5
deriving DecidableEq, Repr

/-- The order of the blocks in the data (R360). -/
def blockSequence : List ResidualBlock := [.y0, .y1, .y2, .y3, .cb4, .cr5]

/-- How an 8x8 block is divided into transform blocks: whole or 4x4 in AVC (R360), four ways in VC1 (R366). -/
inductive Division where
  /-- Single 8x8 block. -/
  | one8x8
  | two8x4
  | two4x8
  | four4x4
deriving DecidableEq, Repr

/-- The number of transform blocks (R360, R366). -/
def Division.count : Division → Nat
  | .one8x8 => 1
  | .two8x4 => 2
  | .two4x8 => 2
  | .four4x4 => 4

/-- Width and height of a transform block (R360, R366). -/
def Division.size : Division → Nat × Nat
  | .one8x8 => (8, 8)
  | .two8x4 => (8, 4)
  | .two4x8 => (4, 8)
  | .four4x4 => (4, 4)

/-- An index is in its valid range, which depends on the size of the transform block (R360). -/
def Division.indexFits (d : Division) (c : Coefficient) : Bool := decide (c.index.toNat < d.size.1 * d.size.2)

/-- The coefficients of each transform block: a block ends with the coefficient whose EOB is set. `none`: a DWord with MBZ
bits set, or data that ends inside a block (R360, R372). -/
def transformBlocks : List DWord → Option (List (List Coefficient))
  | [] => some []
  | w :: rest =>
    match coefficientOf w, transformBlocks rest with
    | some c, some blocks =>
      if c.eob then some ([c] :: blocks)
      else
        match blocks with
        | [] => none
        | b :: more => some ((c :: b) :: more)
    | _, _ => none

/-- The transform blocks that have data, in the order of the data: the 8x8 blocks in their sequence, within each its
subblocks in order (R360). -/
def transformSequence (division : ResidualBlock → Division) (present : ResidualBlock → Nat → Bool) :
    List (ResidualBlock × Nat) :=
  blockSequence.flatMap fun b => ((List.range (division b).count).filter (present b)).map fun n => (b, n)

/-- The residual data of a macroblock: each transform block that is present, with its coefficients. -/
abbrev Residual := List ((ResidualBlock × Nat) × List Coefficient)

/-- The residual data of a macroblock: each transform block that is present with its coefficients. `none`: the data does
not have as many transform blocks as are present, or an index is outside its block (R360, R372). That it is `none` too for
data that goes on behind the last coefficient, as a fill up to 32 bytes would, is the model's choice (log 52). -/
def residualData (division : ResidualBlock → Division) (present : ResidualBlock → Nat → Bool) (data : List DWord) :
    Option Residual :=
  match transformBlocks data with
  | none => none
  | some blocks =>
    if blocks.length = (transformSequence division present).length
        ∧ ((transformSequence division present).zip blocks).all
            (fun e => e.2.all (division e.1.1).indexFits) = true then
      some ((transformSequence division present).zip blocks)
    else none

/-! ### VC1-IT inline data (R363 to R366) -/

/-- MotionType (R363). -/
inductive MotionType where
  | intra
  | field
  | frame
deriving DecidableEq, Repr

/-- The values of MotionType (R363). -/
def motionTypeOf (v : BitVec 2) : Option MotionType := [.intra, .field, .frame][v.toNat]?

/-- MvFieldSelect, valid for a macroblock that is not intra; each bit: false, predicted from the top reference field; true,
from the bottom one (R363). -/
structure MvFieldSelect where
  /-- Bit 28: forward prediction of the frame or field or of the TOP field of an interlace frame; block 0 in 4MV mode. -/
  forwardTop     : Bool
  /-- Bit 29: backward prediction of the same; forward prediction of block 1 in 4MV mode. -/
  backwardTop    : Bool
  /-- Bit 30: forward prediction of the BOTTOM field of an interlace frame; block 2 in 4MV mode. -/
  forwardBottom  : Bool
  /-- Bit 31: backward prediction of the BOTTOM field; forward prediction of block 3 in 4MV mode. -/
  backwardBottom : Bool
deriving DecidableEq, Repr

/-- MvFieldSelect of block `i` in 4MV mode (R363). -/
def MvFieldSelect.ofBlock (f : MvFieldSelect) (i : Nat) : Bool :=
  [f.forwardTop, f.backwardTop, f.forwardBottom, f.backwardBottom].getD i false

/-- VC1-IT inline DWord 0 (R363). -/
structure Vc1DWord0 where
  mvFieldSelect       : MvFieldSelect
  mvFieldSelectChroma : Bool
  motionType          : BitVec 2
  mvSwitch            : Bool
  dctType             : Bool
  overlapTransform    : Bool
  motion4Mv           : Bool
  motionBackward      : Bool
  motionForward       : Bool
  intraMacroblock     : Bool
  /-- Bit 3 is Y0, bit 0 is Y3. -/
  lumaIntra8x8Flag    : BitVec 4
  /-- Bit 5 is Y0, bit 1 is Cb4, bit 0 is Cr5. -/
  cbp                 : BitVec 6
  chromaIntraFlag     : Bool
  lastRowFlag         : Bool
deriving DecidableEq, Repr

/-- The fields of inline DWord 0 (R363). -/
def vc1DWord0Of (w : DWord) : Vc1DWord0 where
  mvFieldSelect := ⟨flag w 28, flag w 29, flag w 30, flag w 31⟩
  mvFieldSelectChroma := flag w 26
  motionType := bits w 24 2
  mvSwitch := flag w 22
  dctType := flag w 21
  overlapTransform := flag w 20
  motion4Mv := flag w 19
  motionBackward := flag w 18
  motionForward := flag w 17
  intraMacroblock := flag w 16
  lumaIntra8x8Flag := bits w 12 4
  cbp := bits w 6 6
  chromaIntraFlag := flag w 5
  lastRowFlag := flag w 4

/-- The MBZ bits of inline DWord 0 (R363). -/
def vc1DWord0Mbz (w : DWord) : Bool := mbz w 27 1 && mbz w 23 1 && mbz w 0 4

/-- LumaIntra8x8Flag of block Y`i`: bit 15 is Y0, bit 12 is Y3 (R363). -/
def Vc1DWord0.lumaIntra (d : Vc1DWord0) (i : Nat) : Bool := d.lumaIntra8x8Flag.getLsbD (3 - i)

/-- The coded block pattern's bit of block `b`, 0 to 3 for Y0 to Y3, 4 for Cb4, 5 for Cr5 (R363). -/
def Vc1DWord0.cbpBit (d : Vc1DWord0) (b : Nat) : Bool := d.cbp.getLsbD (5 - b)

/-- Block `b` has a residue block: in an intra macroblock the coded block pattern is ignored, and each block has one
(R363). -/
def Vc1DWord0.coded (d : Vc1DWord0) (b : Nat) : Bool := d.intraMacroblock || d.cbpBit b

/-- Block `b` is coded as intra: in an intra macroblock every block, in 4MV mode those the flags name (R363). That
IntraMacroblock speaks of every block, with field motion too, is the model's choice (log 47). -/
def Vc1DWord0.blockIntra (d : Vc1DWord0) (b : Nat) : Bool :=
  d.intraMacroblock || (d.motion4Mv && if b < 4 then d.lumaIntra b else d.chromaIntraFlag)

/-- What R363 says the fields of one macroblock must satisfy together, in a picture that is progressive or not and P or
not. Of DctType 1 with MotionType 00, which one sentence allows and another forbids, both readings are accepted
(90_conflicts.md C32). Of IntraMacroblock with field motion, which one sentence reads as "the top field is intra" and
`intraType` forbids, the model's choice is `intraType` (log 47). That 4MV mode needs a progressive P picture, although the
rows of MvFieldSelect speak of it in interlaced ones, is the model's choice too (log 49). -/
structure Vc1DWord0.Consistent (d : Vc1DWord0) (progressive pPicture : Bool) : Prop where
  motionTypeListed   : motionTypeOf d.motionType ≠ none
  frameMotion        : progressive = true → d.motionType ≠ 0b01
  intraType          : d.motionType = 0b00 ↔ d.intraMacroblock = true
  fieldMotion        : d.motionType = 0b01 → d.dctType = true
  fieldResidual      : d.dctType = true → d.motionType = 0b00 ∨ d.motionType = 0b01
  frameResidual      : progressive = true → d.dctType = false
  fourMvPicture      : d.motion4Mv = true → progressive = true ∧ pPicture = true
  fourMvForward      : d.motionForward = false → d.motion4Mv = false
  fourMvNoBackward   : d.motion4Mv = true → d.motionBackward = false
  lumaIntraOnlyIn4Mv : d.motion4Mv = false → d.lumaIntra8x8Flag = 0
  intraCoded         : ∀ b, b < 6 → d.blockIntra b = true → d.cbpBit b = true

/-- VC1-IT inline DWord 1 (R364). -/
structure Vc1DWord1 where
  /-- Bit 0 is the top edge, bit 1 the left edge of Cb and Cr. -/
  osEdgeMaskChroma : BitVec 2
  /-- Bits 0..3 are the top edges of Y0..Y3, bits 4..7 their left edges. -/
  osEdgeMaskLuma   : BitVec 8
  vertOrigin       : BitVec 8
  horzOrigin       : BitVec 8
deriving DecidableEq, Repr

/-- The fields of inline DWord 1 (R364). -/
def vc1DWord1Of (w : DWord) : Vc1DWord1 where
  osEdgeMaskChroma := bits w 24 2
  osEdgeMaskLuma := bits w 16 8
  vertOrigin := bits w 8 8
  horzOrigin := bits w 0 8

/-- The MBZ bits of inline DWord 1 (R364). -/
def vc1DWord1Mbz (w : DWord) : Bool := mbz w 26 6

/-- MotionVector[i], i = 0..3 (R365). -/
def vc1MotionVector (inlineData : List DWord) (i : Nat) : Mv := mvOf (dw inlineData (2 + i))

/-- MotionVectorChroma (R365). That it is split as the other vectors are is the model's choice (log 53). -/
def vc1MotionVectorChroma (inlineData : List DWord) : Mv := mvOf (dw inlineData 6)

/-- Where a block's subblock coding byte is: inline DWord and lowest bit (R366). -/
def ResidualBlock.codePlace : ResidualBlock → Nat × Nat
  | .y0 => (7, 0)
  | .y1 => (7, 8)
  | .y2 => (7, 16)
  | .y3 => (7, 24)
  | .cb4 => (8, 0)
  | .cr5 => (8, 8)

/-- The subblock coding byte of a block (R366). -/
def vc1SubblockCode (inlineData : List DWord) (b : ResidualBlock) : BitVec 8 :=
  bits (dw inlineData b.codePlace.1) b.codePlace.2 8

/-- The MBZ bits of inline DWord 8 (R366). -/
def vc1DWord8Mbz (inlineData : List DWord) : Bool := mbz (dw inlineData 8) 16 16

/-- The division a coding byte names in bits 1:0 (R366). -/
def subblockDivision (code : BitVec 8) : Division :=
  match (code.extractLsb' 0 2).toNat with
  | 0 => .one8x8
  | 1 => .two8x4
  | 2 => .two4x8
  | _ => .four4x4

/-- Subblock `n` is there and present; the present bits of subblocks a division does not have are "don't care" (R366). -/
def subblockPresent (code : BitVec 8) (n : Nat) : Bool :=
  decide (n < (subblockDivision code).count) && code.getLsbD (2 + n)

/-- The division of each block of a VC1 macroblock, for `residualData` (R366, R372). -/
def vc1Division (inlineData : List DWord) (b : ResidualBlock) : Division :=
  subblockDivision (vc1SubblockCode inlineData b)

/-- A block's number in the fields of DWord 0 (R363). -/
def ResidualBlock.number : ResidualBlock → Nat
  | .y0 => 0
  | .y1 => 1
  | .y2 => 2
  | .y3 => 3
  | .cb4 => 4
  | .cr5 => 5

/-- Subblock `n` of block `b` of a VC1 macroblock has residual data: the block is coded and its coding byte has the
subblock present (R363, R366). That both are needed is the model's choice (log 54). -/
def vc1Present (inlineData : List DWord) (b : ResidualBlock) (n : Nat) : Bool :=
  (vc1DWord0Of (dw inlineData 0)).coded b.number && subblockPresent (vc1SubblockCode inlineData b) n

/-- Block `b` has at least one coefficient. -/
def hasCoefficient (residual : Residual) (b : ResidualBlock) : Bool :=
  residual.any fun e => e.1.1 == b && !e.2.isEmpty

/-- Each intra-coded block of the macroblock has at least one coefficient in the data, be it zero (R363). -/
def intraBlocksHaveData (inlineData : List DWord) (residual : Residual) : Bool :=
  blockSequence.all fun b => !(vc1DWord0Of (dw inlineData 0)).blockIntra b.number || hasCoefficient residual b

/-- The residual data of a VC1 macroblock. `none`: `residualData` has none, or an intra-coded block has no coefficient
(R363, R366, R372). -/
def vc1ResidualData (inlineData data : List DWord) : Option Residual :=
  (residualData (vc1Division inlineData) (vc1Present inlineData) data).filter (intraBlocksHaveData inlineData)

/-! ### VC1 motion vector derivations (R368 to R371); `>>` is arithmetic and `& 3` acts on two's complement (D15) -/

/-- `v >> k`. -/
def shr (v : Int) (k : Nat) : Int := v / (2 ^ k : Nat)

/-- `v & 3`. -/
def and3 (v : Int) : Int := v % 4

/-- `(v & 3) == 3 ? 1 : 0` (D16). -/
def roundUp (v : Int) : Int := if and3 v = 3 then 1 else 0

/-- A motion vector as two integers. -/
structure MvInt where
  x : Int
  y : Int
deriving DecidableEq, Repr

/-- The line of the reference an interlaced field vector points to, iy (R368). -/
def fieldLine (bottom : Bool) (mvY : Int) : Int := if bottom then shr mvY 2 + 1 else shr mvY 2

/-- MVFS: the reference field, 0 top, 1 bottom (R368). -/
def mvfs (bottom : Bool) (mvY : Int) : Int := fieldLine bottom mvY % 2

/-- LMV_Y: the field based luma vector (R368). -/
def lmvY (bottom : Bool) (mvY : Int) : Int := shr (fieldLine bottom mvY) 1 * 4 + and3 mvY

/-- LMV_X and LMV_Y (R368). -/
def fieldMv (bottom : Bool) (mv : MvInt) : MvInt := ⟨mv.x, lmvY bottom mv.y⟩

/-- One component of a chroma vector (R369). -/
def chroma1 (v : Int) : Int := shr (v + roundUp v) 1

/-- The chroma vector of one motion vector, quarter-pel (R369). -/
def chromaMv1 (mv : MvInt) : MvInt := ⟨chroma1 mv.x, chroma1 mv.y⟩

/-- Case 3 of the 4-MV code: the first vector's x becomes the median of three (R370). -/
def medianOfThree (a b c : Int) : Int :=
  if a < b ∧ a < c then (if b < c then b else c)
  else if b < a ∧ c < a then (if c < b then b else c)
  else a

/-- Case 4 of the 4-MV code: the x of the first two vectors become the middle two of four, as printed (R370). -/
def middleTwo (a b c d : Int) : Int × Int :=
  if a < b ∧ a < c ∧ a < d then
    if c < d then (c, if d < b then d else b) else (d, if c < b then c else b)
  else if b < a ∧ c < a ∧ d < a then
    if d < c then (c, if b < d then d else b) else (d, if b < c then c else b)
  else if b < c ∧ b < d then (a, if c < d then c else d)
  else if c < b ∧ d < b then (a, if d < c then c else d)
  else (a, b)

/-- Case 2 of the 4-MV code: the average of two (R370). -/
def averageOfTwo (a b : Int) : Int := chroma1 (shr (a + b) 1)

/-- The vectors of the inter-coded blocks, in block order. R370 does not say which vectors are mv0, mv1, mv2 when fewer
than four blocks are inter-coded; that order is the model's choice (log 45). -/
def interVectors (intra : Nat → Bool) (mv : Nat → MvInt) : List MvInt :=
  ((List.range 4).filter fun b => !intra b).map mv

/-- The chroma vector from mv0, mv1, ..: the inter-coded blocks' vectors (R370; which they are: `interVectors`, log 45);
fewer than two: the chroma is intra. As printed, only x is selected by median. -/
def chromaMv4 : List MvInt → Option MvInt
  | [a, b] => some ⟨averageOfTwo a.x b.x, averageOfTwo a.y b.y⟩
  | [a, b, c] => some ⟨chroma1 (medianOfThree a.x b.x c.x), chroma1 a.y⟩
  | [a, b, c, d] =>
    some ⟨averageOfTwo (middleTwo a.x b.x c.x d.x).1 (middleTwo a.x b.x c.x d.x).2, averageOfTwo a.y b.y⟩
  | _ => none

/-- The chroma vector of the half-pel case, from that of the quarter-pel case: one more shift with a rounding of which no
formula is given, a free value (R371; log 46). -/
def chromaHalfPel (cmv : MvInt) : MvInt := ⟨Config.halfPelChroma cmv.x, Config.halfPelChroma cmv.y⟩

/-- One component truncated to lie between `-low` and `high` whole pixels, its fraction kept (R371). -/
def truncate (low high v : Int) : Int :=
  if shr (if shr v 2 < -low then -4 * low + and3 v else v) 2 > high then
    high * 4 + and3 (if shr v 2 < -low then -4 * low + and3 v else v)
  else if shr v 2 < -low then -4 * low + and3 v
  else v

/-- Luma truncation for a picture of `pw` by `ph` (R371). -/
def truncateLuma (pw ph : Int) (mv : MvInt) : MvInt := ⟨truncate 16 pw mv.x, truncate 16 ph mv.y⟩

/-- Chroma truncation for a chroma picture of `cpw` by `cph` (R371). -/
def truncateChroma (cpw cph : Int) (mv : MvInt) : MvInt := ⟨truncate 8 cpw mv.x, truncate 8 cph mv.y⟩

end Sys2Proof.Machine.Macroblock
end

