-- ==== Sys2Proof/Safety.lean ====
section
/-! DEFINITION. Safety.lean: what a good state and a good run are, in the terms statements use: the structural invariant
of the machine, the conditions under which a unit is stuck (60_exceptions.md R444 to R452), and the bounds software keeps
(60_exceptions.md R446, 70_reset_and_hazards.md R485, R494). -/

namespace Sys2Proof.Machine

open Sys2Proof

/-! ### Structural invariant -/

/-- Graphics memory and every ROB version are in canonical form. -/
def storesCanonical (s : State) : Bool :=
  Memory.wf s.mem && Sparse.wf s.rob.regs && s.stale.all fun r => Sparse.wf r.regs

/-- The counts of TS agree with its records: RootCount counts the outstanding roots (10_state.md R52), the FFTIDs and
scratch slots in use are theirs (R53, R54), and no two share one. -/
def recordsAgree (ts : Spawner) : Prop :=
  ts.rootCount = ts.outstanding.length
    ∧ ts.fftids = ts.outstanding.map (·.fftid)
    ∧ ts.scratch = ts.outstanding.map (fun o => (o.scratchSlot, o.fftid))
    ∧ (ts.outstanding.map (·.fftid)).Nodup
    ∧ (ts.outstanding.map (·.scratchSlot)).Nodup

/-- Every slot is free or has a thread in it (10_state.md R62). -/
def slotsAgree (p : Config.Params) (td : Dispatcher) : Prop := td.freeSlots + td.threads.length = p.threadSlots

/-- Each thread has a name of its own, below the next one. -/
def namesAgree (td : Dispatcher) : Prop :=
  (td.threads.map (·.id)).Nodup ∧ ∀ t ∈ td.threads, t.id < td.nextThread

/-- The queues keep their depths, ChildQ with the entries that are still taken (10_state.md R50, R51; log 16). -/
def queuesBounded (s : State) : Prop :=
  s.ts.rootQ.length ≤ Config.rootQueueDepth ∧ childQEntries s ≤ s.params.childQueueDepth

/-- The pool has as many handles as the record says (40_vfe_and_walker.md R167), and its head is one of them. -/
def poolAgrees (v : Vfe) : Prop :=
  (v.loaded = true → v.pool.referenced.length = v.record.numberOfUrbEntries.toNat)
    ∧ (v.pool.referenced ≠ [] → v.pool.head < v.pool.referenced.length)

/-! ### Stuck units -/

/-- A spawn-root message holds ChildQ (60_exceptions.md R445). -/
def childQBlocked (s : State) : Bool :=
  match s.ts.childQ with
  | [] => false
  | m :: _ => childQHeld s m

/-- A synchronized root at the head of RootQ waits for its message (60_exceptions.md R445). -/
def rootQAwaitsMessage (s : State) : Bool :=
  match s.ts.rootQ with
  | [] => false
  | r :: _ => r.control.threadSync

/-- ChildQ is full (60_exceptions.md R446; which entries count: log 16). -/
def childQFull (s : State) : Bool := decide (s.params.childQueueDepth ≤ childQEntries s)

/-- A spawn-child message. -/
def isSpawnChild (m : SendMsg) : Bool := isSpawn m && !isSpawnRoot m && !m.eot

/-- The full cycle: every thread slot is occupied, so that TD cannot accept a child request; ChildQ is full of such
requests, so that no thread can deliver its termination message; and no thread has (60_exceptions.md R446). -/
def childQDeadlocked (s : State) : Bool :=
  s.td.freeSlots == 0 && childQFull s && s.ts.childQ.all isSpawnChild && s.td.threads.all fun t => !t.ended

/-- VFE waits for the handle at the pool head (60_exceptions.md R447). -/
def vfeAwaitsHandle (s : State) : Bool :=
  match s.vfe.work with
  | some (.generate g) => g.assembled.isNone && !g.todo.isEmpty && !s.vfe.pool.headFree
  | _ => false

/-- A watermark above the number of slots there are (60_exceptions.md R449). -/
def waterMarkUnreachable (p : Config.Params) (waterMark : BitVec 8) : Bool := decide (p.threadSlots < waterMark.toNat)

/-! ### Bounds software keeps -/

/-- The bound on outstanding child threads of one root alone (60_exceptions.md R446). -/
def maxOutstandingChildren (p : Config.Params) : Nat := (p.threadSlots - 1) + (p.childQueueDepth - 1)

/-- The bound with `maxRoots` root threads allowed (60_exceptions.md R446). -/
def maxOutstandingChildrenWith (p : Config.Params) (maxRoots : Nat) : Nat := maxOutstandingChildren p - (maxRoots - 1)

/-- The scratch memory the driver allocates, in bytes (20_memory.md R94, 70_reset_and_hazards.md R485 (e)). -/
def scratchBytes (v : VfeRecord) : Nat :=
  (v.maximumNumberOfThreads.toNat + 1) * (v.perThreadScratchSpace.toNat + 1) * 1024

/-- Where the scratch area begins (20_memory.md R94). -/
def scratchStart (s : State) : Nat :=
  s.cs.bases.generalState + s.vfe.record.scratchSpaceBasePointer.toNat * 1024

end Sys2Proof.Machine
end

