-- ==== Sys2Proof/Certificates/Slice0/Obligations.lean ====
section
/-! DEFINITION. Certificates/Slice0/Obligations.lean: the statements for the provers. Each is for every state and every
operand that meets its premises; what an equation's right side does not mention keeps its value. -/

open Sys2Proof Sys2Proof.Machine

namespace Sys2Proof.Certificates

/-! ### Premises several statements share -/

/-- The fields of MEDIA_VFE_STATE are in their ranges (42_state_commands.md R250). -/
abbrev InRange (p : Config.Params) (v : VfeRecord) : Prop :=
  v.stackSize.toNat ≤ 11 ∧ v.perThreadScratchSpace.toNat ≤ 11
    ∧ v.maximumNumberOfThreads.toNat ≤ p.threadSlots - 1 ∧ v.numberOfUrbEntries.toNat ≤ 64
    ∧ v.urbEntryAllocationSize.toNat ≤ p.robRegisters - 33 ∧ v.curbeAllocationSize.toNat ≤ p.robRegisters - 33

/-- The ROB budget, strict (42_state_commands.md R252). -/
abbrev InBudget (p : Config.Params) (v : VfeRecord) : Prop :=
  v.urbEntryAllocationSize.toNat * v.numberOfUrbEntries.toNat + v.curbeAllocationSize.toNat + 32 < p.robRegisters

/-- A load from the Dynamic State space is aligned and lies below the bound (20_memory.md R91, R95). -/
abbrev LoadInBounds (s : State) (length : BitVec 17) (address : BitVec 32) : Prop :=
  length.toNat % 32 = 0 ∧ address.toNat % 32 = 0
    ∧ s.cs.bases.dynamicState + address.toNat + length.toNat ≤ s.cs.bases.dynamicBound

/-- Byte `b` of a register, byte 0 lowest. -/
def byteOf (r : Reg) (b : Nat) : Byte := r.extractLsb' (8 * b) 8

/-- Nobody holds a URB handle or has asked for a thread that would (93_implementation_defined.md U16). -/
abbrev NoHandleInUse (s : State) : Prop :=
  s.vfe.pool.allFree = true ∧ s.ts.rootQ = [] ∧ s.ts.aside = [] ∧ ∀ m ∈ s.ts.childQ, isSpawn m = false

/-- Nothing holds a MEDIA_STATE_FLUSH with this watermark and mask (42_state_commands.md R284 to R286; log 17, 26). -/
abbrev StateFlushMayEnd (s : State) (waterMark : BitVec 8) (mask : BitVec 16) : Prop :=
  s.ts.rootQ = [] ∧ s.ts.aside = [] ∧ (∀ q ∈ s.td.queue, q.kind = .child) ∧ waterMark.toNat ≤ s.td.freeSlots
    ∧ ∀ b : Fin 16, mask.getLsbD b.val = true → barrierClear s b = true

/-- A primitive command may name this descriptor (43_primitive_commands.md R302, 70_reset_and_hazards.md R480). -/
abbrev DescriptorReady (s : State) (ido : BitVec 6) : Prop :=
  s.vfe.loaded = true ∧ ido.toNat ≤ 30 ∧ ido.toNat < s.rob.idtCount

/-- What MEDIA_OBJECT needs of the state and its operands (43_primitive_commands.md R300, R302, R304, R308). -/
abbrev ObjectReady (s : State) (c : MediaObject) : Prop :=
  s.cs.pipeline = .media ∧ c.inlineData.length ≤ 504 ∧ c.dwordLength.toNat = c.inlineData.length + 4
    ∧ DescriptorReady s c.interfaceDescriptorOffset ∧ c.halfSlice ≠ 3
    ∧ c.indirectDataLength.toNat % 32 = 0 ∧ c.indirectDataLength.toNat ≤ 1984
    ∧ ceil8 c.inlineData.length + c.indirectDataLength.toNat / 32 < 112
    ∧ (c.indirectDataLength = 0
        ∨ (c.indirectDataStartAddress.toNat < 2 ^ 29 ∧ c.indirectDataStartAddress.toNat % 32 = 0
            ∧ s.cs.bases.indirectObject + c.indirectDataStartAddress.toNat + c.indirectDataLength.toNat
                ≤ s.cs.bases.indirectBound))
    ∧ ceil8 c.inlineData.length + c.indirectDataLength.toNat / 32 ≤ s.vfe.record.urbEntryAllocationSize.toNat

/-- What MEDIA_OBJECT_PRT needs, but for its place in the stream (43_primitive_commands.md R310). -/
abbrev PrtReady (s : State) (c : MediaObjectPrt) : Prop :=
  s.cs.pipeline = .media ∧ c.inlineData.length = 12 ∧ c.dwordLength.toNat = 14
    ∧ DescriptorReady s c.interfaceDescriptorOffset ∧ 2 ≤ s.vfe.record.urbEntryAllocationSize.toNat

/-- What MEDIA_OBJECT_WALKER needs (43_primitive_commands.md R320, R322, 40_vfe_and_walker.md R189). -/
abbrev WalkerReady (s : State) (c : MediaObjectWalker) : Prop :=
  s.cs.pipeline = .media ∧ c.inlineData.length ≤ 504 ∧ c.dwordLength.toNat = c.inlineData.length + 15
    ∧ DescriptorReady s c.interfaceDescriptorOffset ∧ c.indirectDataLength = 0
    ∧ ¬(c.walk.repel = true ∧ c.walk.dualMode = true)
    ∧ ∀ p ∈ walkSeq c.walk, 0 ≤ p.1.x ∧ p.1.x ≤ 511 ∧ 0 ≤ p.1.y ∧ p.1.y ≤ 511

/-- A root thread of this request can be given to TD (42_state_commands.md R268, 93_implementation_defined.md U13). -/
abbrev RootFits (s : State) (r : RootReq) (extra : Option UrbRef) : Prop :=
  ((descriptorOf (rootDescriptor s r)).constantUrbReadLength = 0
      ∨ (descriptorOf (rootDescriptor s r)).constantUrbReadOffset.toNat
          + (descriptorOf (rootDescriptor s r)).constantUrbReadLength.toNat ≤ s.params.robRegisters - 33)
    ∧ (rootImage s r extra).length ≤ s.params.grfRegisters

/-- RootEligible, but for the pairing (41_thread_spawner.md R210): a place under the limit, no root-queue fence, no
preempt sent, an FFTID and a scratch slot to give, and under the stalling scoreboard every dependency clear. -/
abbrev MayStart (s : State) (r : RootReq) : Prop :=
  s.ts.rootCount < s.vfe.record.maximumNumberOfThreads.toNat + 1 ∧ s.ts.fence ≠ .rootQueue ∧ s.ts.preemptSent = false
    ∧ freeFftids s.ts ≠ [] ∧ freeScratchSlots s.vfe.record s.ts ≠ []
    ∧ (s.vfe.record.scoreboardType = false → dependenciesClear s.vfe.record s.ts.tracking r = true)

/-- The request is not one the non-stalling scoreboard sets aside (41_thread_spawner.md R232). -/
abbrev NotSetAside (s : State) (r : RootReq) : Prop :=
  s.vfe.record.scoreboardType = true → dependenciesClear s.vfe.record s.ts.tracking r = true

/-- What TS remembers of a root thread it starts with this FFTID and scratch slot (41_thread_spawner.md R214). -/
def rememberedAs (s : State) (r : RootReq) (fftid : BitVec 8) (slot : Nat) : Outstanding where
  fftid := fftid
  handle := r.handle
  childrenPresent := r.control.childrenPresent
  dereferenced := false
  scratchSlot := slot
  entry :=
    if s.vfe.record.scoreboardEnable = true ∧ r.control.useScoreboard = true then
      some ⟨r.position.x.toNat, r.position.y.toNat, r.position.color⟩
    else none
  isPrt := r.control.isPrt

/-- The registers a spawn-root message passes to its root: `length` registers of its entry from `offset` up, or free
values where the pool does not have the handle (41_thread_spawner.md R220; the latter: log 24). -/
def passedRegs (s : State) : Option UrbRef → List Reg
  | none => []
  | some u =>
    if u.handle.toNat < s.vfe.pool.referenced.length then
      urbRegs s.vfe.record s.rob u.handle u.offset.toNat u.length.toNat
    else (List.range u.length.toNat).map fun i => Config.undefinedUrb (s.freeCount + 2 + i)

/-- The state in which root request `r` is started with this FFTID and scratch slot, its request having left its queue so
that TS was as `ts` says (41_thread_spawner.md R214, R220; 45_messages.md R390). -/
def startedAs (s : State) (r : RootReq) (f : BitVec 8) (k : Nat) (extra : Option UrbRef) (ts : Spawner) (count : Nat) :
    State :=
  { s with
    ts := { ts with
            rootCount := ts.rootCount + 1
            fftids := f :: ts.fftids, scratch := (k, f) :: ts.scratch
            outstanding := rememberedAs s r f k :: ts.outstanding
            tracking := (rememberedAs s r f k).entry.toList ++ ts.tracking }
    td := { s.td with
            queue := s.td.queue ++
              [{ kind := .root ⟨f, r.handle, r.control.childrenPresent, r.control.isPrt,
                                r.control.fenceNeeded, r.control.fenceType⟩
                 kernel := (descriptorOf (rootDescriptor s r)).kernelStartPointer
                 modes := modesOf s.params.modeBits (rootDescriptor s r)
                 halfSlice := r.control.halfSlice
                 regs := rootHeader s.params r (rootDescriptor s r) f k
                   :: (curbeRegs s.rob (descriptorOf (rootDescriptor s r)) (s.freeCount + 2)
                       ++ passedRegs s extra ++ urbRegs s.vfe.record s.rob r.handle 0 r.payloadRegs) }] }
    freeCount := count }

end Sys2Proof.Certificates

open Sys2Proof.Certificates

/-! ### Encoding -/

/-- Decoding the encoding of a well-formed instruction gives it back: every operand of every instruction, at every
value its field admits (30_encoding.md R121 to R136). -/
def Obligations.DecodeEncodeRoundTrip : Prop :=
  ∀ i : Instr, i.wellFormed = true → decode (encode i) = .ok i

/-- A well-formed command at the front of a stream is decoded, and the rest of the stream is what follows it
(30_encoding.md R122). -/
def Obligations.CommandsFollowEachOther : Prop :=
  ∀ (i : Instr) (ds rest : List DWord), i.wellFormed = true → encode i = .command ds →
    decodeCommand (ds ++ rest) = .ok (i, rest)

/-- Words written out from the encoding tables decode to the instructions they stand for
(30_encoding.md R126, R128, R129, R135, R136). -/
def Obligations.WrittenWordsDecode : Prop :=
  decode (.command [0x70010002, 0, 0x00000040, 0x00001000]) = .ok (.mediaCurbeLoad ⟨2, 0x40, 0x1000⟩)
    ∧ decode (.command [0x70030000, 0x000FFF3C]) = .ok (.mediaGatewayState ⟨0, 15, 0xFF, 60⟩)
    ∧ decode (.command [0x70040000, 0x00040002]) = .ok (.mediaStateFlush ⟨0, 4, 2⟩)
    ∧ decode (.message ⟨0x00010, true, Reg.ofList [0, 0, 0, 0, 0, 7]⟩)
        = .ok (.tsDerefNourbRoot
            { eot := true, handle := 0, offset := 0, length := 0, interfaceDescriptorOffset := 0, color := 0
              barrierId := 0, fftid := 7 })

/-- A header that the opcode map does not list is refused by name (30_encoding.md R123, R138 items 1 and 2). -/
def Obligations.UndefinedHeadersRefused : Prop :=
  ∀ ds : List DWord, ds ≠ [] →
    bits (dw ds 0) 16 16 ∉
      ([0x7000, 0x7001, 0x7002, 0x7003, 0x7004, 0x7100, 0x7102, 0x7103] : List (BitVec 16)) →
    decodeCommand ds
      = .error (if bits (dw ds 0) 27 5 = 0b01110 then .undefinedCommand else .notMediaCommand)

/-- A message is decoded exactly if its MBZ bits are zero, and then bits 4, 1, 0 of its descriptor select the form
(30_encoding.md R135, R136). That non-zero MBZ bits are refused is the spec's treatment 93_implementation_defined.md U1,
as the model reads it (log 13): the two rules state no effect of them. -/
def Obligations.MessageFormsSelected : Prop :=
  ∀ m : SendMsg,
    (decodeMessage m = .error .reservedBits
        ↔ ¬(m.desc.extractLsb' 5 15 = 0 ∧ m.desc.extractLsb' 2 2 = 0 ∧ bits (m.m0.dword 0) 16 12 = 0))
      ∧ (bits (m.m0.dword 0) 16 12 = 0 →
          (m.desc = 0x00000 → decodeMessage m = .ok (.tsDerefUrbRoot (msgFieldsOf m)))
            ∧ (m.desc = 0x00001 → decodeMessage m = .ok (.tsSpawnChildRoot (msgFieldsOf m)))
            ∧ (m.desc = 0x00002 → decodeMessage m = .ok (.tsDerefUrbChild (msgFieldsOf m)))
            ∧ (m.desc = 0x00003 → decodeMessage m = .ok (.tsSpawnChildChild (msgFieldsOf m)))
            ∧ (m.desc = 0x00010 → decodeMessage m = .ok (.tsDerefNourbRoot (msgFieldsOf m)))
            ∧ (m.desc = 0x00011 → decodeMessage m = .ok (.tsSpawnRootRoot (msgFieldsOf m)))
            ∧ (m.desc = 0x00012 → decodeMessage m = .ok (.tsDerefNourbChild (msgFieldsOf m)))
            ∧ (m.desc = 0x00013 → decodeMessage m = .ok (.tsSpawnRootChild (msgFieldsOf m))))

/-! ### A step runs the decoded instruction -/

/-- On VFE's turn, VFE free and not held: the command at the head of the stream is executed
(40_vfe_and_walker.md R163). -/
def Obligations.VfeStepRunsCommand : Prop :=
  ∀ (s : State) (events : List Event) (i : Instr) (rest : List DWord),
    s.agenda = .vfeTurn :: events → s.vfe.work = none → s.ts.fence ≠ .vfeEntry → s.ts.preemptPending = false →
    decodeCommand (leadingDWords s.cs.stream) = .ok (i, rest) →
    step s = exec i { s with agenda := events }

/-- On TS's turn: the message at the head of ChildQ is executed, unless it is a spawn-root message with no synchronized
root that may go; whatever threads run and requests wait at TD (41_thread_spawner.md R202). -/
def Obligations.TsStepRunsMessage : Prop :=
  ∀ (s : State) (events : List Event) (m : SendMsg) (queue : List SendMsg) (i : Instr),
    s.agenda = .tsTurn :: events → s.ts.childQ = m :: queue → decodeMessage m = .ok i →
    (isSpawnRoot m = true → m.eot = false → ∃ r roots, s.ts.rootQ = r :: roots ∧ r.control.threadSync = true
        ∧ MayStart s r) →
    step s = exec i { s with agenda := events }

/-- A command taken from the stream moves the command pointer past its `L + 2` DWords, whatever it is
(30_encoding.md R122, 10_state.md R66). -/
def Obligations.CommandPointerMoves : Prop :=
  ∀ (s t : State) (i : Instr) (rest : List DWord),
    decodeCommand (leadingDWords s.cs.stream) = .ok (i, rest) → exec i s = .next t →
    t.cs.stream = s.cs.stream.drop ((bits (dw (leadingDWords s.cs.stream) 0) 0 16).toNat + 2)

/-- A command of illegal length is refused, and every command while the 3D pipeline is selected
(30_encoding.md R124, 70_reset_and_hazards.md R495). -/
def Obligations.IllegalCommandsRefused : Prop :=
  ∀ (i : Instr) (s : State), i.isCommand = true →
    (s.cs.pipeline = .threeD → exec i s = .refused .threeDSelected)
      ∧ (s.cs.pipeline = .media → i.wellFormed = false → exec i s = .refused .illegalLength)

/-! ### State commands -/

/-- MEDIA_VFE_STATE writes the record, makes a fresh pool of handles and resets the timer if it says so
(42_state_commands.md R250, R252, R253; 40_vfe_and_walker.md R167; 60_exceptions.md R462). That no CURBE register is
defined any more is the model's choice (log 7). -/
def Obligations.VfeStateWritesRecord : Prop :=
  ∀ (c : MediaVfeState) (s : State),
    s.cs.pipeline = .media → c.dwordLength = 6 → InRange s.params c.fields → InBudget s.params c.fields →
    (s.vfe.primSinceFlush = false
      ∨ (s.vfe.primSinceStateFlush = false ∧ s.vfe.loaded = true ∧ sameButScoreboard s.vfe.record c.fields = true)) →
    NoHandleInUse s →
    exec (.mediaVfeState c) s
      = .next { s with
          cs := { s.cs with stream := s.cs.stream.drop 8 }
          vfe := { s.vfe with
                   record := c.fields, loaded := true
                   pool := ⟨List.replicate c.fields.numberOfUrbEntries.toNat false, 0⟩ }
          rob := { s.rob with curbeDefined := 0 }
          gateway :=
            if c.fields.resetGatewayTimer = true then
              { s.gateway with relative := 0, latchedGlobal := s.gateway.globalTime }
            else s.gateway }

/-- MEDIA_CURBE_LOAD copies its bytes of Dynamic State memory to the ROB from register 32 up, byte 0 lowest, and
nothing else of the ROB (42_state_commands.md R256, 20_memory.md R85, R90). What a running thread may still see of the
old contents is the model's field `stale` (log 8). -/
def Obligations.CurbeLoadFillsRob : Prop :=
  ∀ (c : MediaCurbeLoad) (s : State),
    s.cs.pipeline = .media → c.dwordLength = 2 → s.vfe.loaded = true → s.vfe.primSinceStateFlush = false →
    LoadInBounds s c.totalLength c.startAddress →
    c.totalLength.toNat / 32 ≤ s.vfe.record.curbeAllocationSize.toNat →
    s.vfe.record.curbeAllocationSize.toNat ≤ s.params.robRegisters - 33 → Sparse.wf s.rob.regs = true →
    ∃ t, exec (.mediaCurbeLoad c) s = .next t
      ∧ t = { s with
              cs := { s.cs with stream := s.cs.stream.drop 4 }
              rob := { s.rob with
                       regs := t.rob.regs, curbeLength := c.totalLength.toNat / 32
                       curbeDefined := c.totalLength.toNat / 32 }
              stale := if s.td.threads = [] ∧ s.td.queue = [] ∧ s.ts.childQ = [] then [] else s.rob :: s.stale }
      ∧ (∀ i b, i < c.totalLength.toNat / 32 → b < 32 →
          byteOf (t.rob.read (32 + i)) b
            = Memory.read s.mem (s.cs.bases.dynamicState + c.startAddress.toNat + 32 * i + b))
      ∧ ∀ r, (r < 32 ∨ 32 + c.totalLength.toNat / 32 ≤ r) → t.rob.read r = s.rob.read r

/-- MEDIA_INTERFACE_DESCRIPTOR_LOAD copies its bytes to the ROB from register 0 up, counts the descriptors, and leaves every
ROB register from 31 up as it was; of the registers between the spec says nothing (42_state_commands.md R260,
10_state.md R40, 20_memory.md R86, R90). What a running thread may still see of the old contents is the model's field
`stale` (log 8). -/
def Obligations.DescriptorLoadFillsTable : Prop :=
  ∀ (c : MediaInterfaceDescriptorLoad) (s : State),
    s.cs.pipeline = .media → c.dwordLength = 2 → s.vfe.primSinceStateFlush = false →
    LoadInBounds s c.totalLength c.startAddress → 32 ≤ c.totalLength.toNat → c.totalLength.toNat ≤ 992 →
    31 ≤ s.params.robRegisters →
    (∀ i, i < c.totalLength.toNat / 32 →
      descriptorMbz s.params.modeBits (regOfBytes (Memory.read s.mem) (s.cs.bases.dynamicState + c.startAddress.toNat + 32 * i)) = true
        ∧ descriptorInRange
            (regOfBytes (Memory.read s.mem) (s.cs.bases.dynamicState + c.startAddress.toNat + 32 * i)) = true) →
    Sparse.wf s.rob.regs = true →
    ∃ t, exec (.mediaInterfaceDescriptorLoad c) s = .next t
      ∧ t = { s with
              cs := { s.cs with stream := s.cs.stream.drop 4 }
              rob := { s.rob with regs := t.rob.regs, idtCount := c.totalLength.toNat / 32 }
              stale := if s.td.threads = [] ∧ s.td.queue = [] ∧ s.ts.childQ = [] then [] else s.rob :: s.stale }
      ∧ (∀ i b, i < c.totalLength.toNat / 32 → b < 32 →
          byteOf (t.rob.read i) b
            = Memory.read s.mem (s.cs.bases.dynamicState + c.startAddress.toNat + 32 * i + b))
      ∧ ∀ r, 31 ≤ r → t.rob.read r = s.rob.read r

/-- MEDIA_GATEWAY_STATE writes one barrier state and no other (42_state_commands.md R280). -/
def Obligations.GatewayStateWritesOneBarrier : Prop :=
  ∀ (c : MediaGatewayState) (s : State),
    s.cs.pipeline = .media → c.dwordLength = 0 → s.vfe.primSinceStateFlush = false →
    c.barrierId.toNat ≤ 15 → 1 ≤ c.threadCount.toNat → c.threadCount.toNat ≤ 60 →
    ∃ t, exec (.mediaGatewayState c) s = .next t
      ∧ t = { s with
              cs := { s.cs with stream := s.cs.stream.drop 2 }
              gateway := { s.gateway with barriers := t.gateway.barriers } }
      ∧ ∀ b : Fin 16,
          t.gateway.barriers[b] = if b.val = c.barrierId.toNat then ⟨c.byte, c.threadCount⟩ else s.gateway.barriers[b]

/-- MEDIA_VFE_STATE over the ROB budget is refused, and one that changes more than scoreboard fields after a primitive
command without MI_FLUSH, and any after a primitive command without MEDIA_STATE_FLUSH; MEDIA_CURBE_LOAD,
MEDIA_INTERFACE_DESCRIPTOR_LOAD and MEDIA_GATEWAY_STATE after a primitive command without MEDIA_STATE_FLUSH;
MEDIA_GATEWAY_STATE with a barrier above 15 or a thread count outside 1..60; MEDIA_OBJECT_PRT after another primitive
command without MI_FLUSH (42_state_commands.md R252, R253, R280; 30_encoding.md R138 item 4; 70_reset_and_hazards.md R487,
R488, R492; 93_implementation_defined.md U16, U18; the two notes of VFE: log 28). -/
def Obligations.ViolatedRequirementsRefused : Prop :=
  ∀ s : State, s.cs.pipeline = .media →
    (∀ c : MediaVfeState, c.dwordLength = 6 → InRange s.params c.fields →
      (¬ InBudget s.params c.fields → exec (.mediaVfeState c) s = .refused .robBudget)
        ∧ (InBudget s.params c.fields → s.vfe.primSinceFlush = true →
            (sameButScoreboard s.vfe.record c.fields = false ∨ s.vfe.primSinceStateFlush = true) →
            exec (.mediaVfeState c) s = .refused .flushMissing))
      ∧ (s.vfe.primSinceStateFlush = true →
          (∀ c : MediaCurbeLoad, c.dwordLength = 2 → s.vfe.loaded = true →
            exec (.mediaCurbeLoad c) s = .refused .flushMissing)
            ∧ (∀ c : MediaInterfaceDescriptorLoad, c.dwordLength = 2 →
                exec (.mediaInterfaceDescriptorLoad c) s = .refused .flushMissing)
            ∧ ∀ c : MediaGatewayState, c.dwordLength = 0 →
                exec (.mediaGatewayState c) s = .refused .flushMissing)
      ∧ (∀ c : MediaGatewayState, c.dwordLength = 0 → s.vfe.primSinceStateFlush = false →
          (15 < c.barrierId.toNat ∨ c.threadCount.toNat = 0 ∨ 60 < c.threadCount.toNat) →
          exec (.mediaGatewayState c) s = .refused .fieldOutOfRange)
      ∧ ∀ c : MediaObjectPrt, PrtReady s c → s.vfe.primSinceFlush = true →
          exec (.mediaObjectPrt c) s = .refused .flushMissing

/-- MEDIA_STATE_FLUSH is done at once when RootQ is empty, TD has acknowledged every root request, enough slots are free
and every masked barrier is clear; it changes no state but the command pointer and the model's note of the flush
(42_state_commands.md R284 to R286; front ends empty: log 26; barrier clear: log 17; the note: log 28). -/
def Obligations.StateFlushCompletes : Prop :=
  ∀ (c : MediaStateFlush) (s : State),
    s.cs.pipeline = .media → c.dwordLength = 0 → s.ts.rootQ = [] → s.ts.aside = [] →
    (∀ q ∈ s.td.queue, q.kind = .child) → c.threadCountWaterMark.toNat ≤ s.td.freeSlots →
    (∀ b : Fin 16, c.barrierMask.getLsbD b.val = true → barrierClear s b = true) →
    exec (.mediaStateFlush c) s
      = .next { s with
          cs := { s.cs with stream := s.cs.stream.drop 2 }
          vfe := { s.vfe with work := none, primSinceStateFlush := false } }

/-- MEDIA_STATE_FLUSH is held in VFE while one of its conditions does not hold; a turn of VFE then changes nothing, and the
turn that finds them all to hold finishes the flush
(42_state_commands.md R284 to R286, 40_vfe_and_walker.md R171; a request set aside: log 26; barrier clear: log 17; the wait
in `vfe.work`: log 31; the note of the flush: log 28). -/
def Obligations.StateFlushWaits : Prop :=
  (∀ (c : MediaStateFlush) (s : State),
    s.cs.pipeline = .media → c.dwordLength = 0 → ¬ StateFlushMayEnd s c.threadCountWaterMark c.barrierMask →
    exec (.mediaStateFlush c) s
      = .next { s with
          cs := { s.cs with stream := s.cs.stream.drop 2 }
          vfe := { s.vfe with work := some (.flush c.threadCountWaterMark c.barrierMask) } })
  ∧ ∀ (s : State) (waterMark : BitVec 8) (mask : BitVec 16), s.vfe.work = some (.flush waterMark mask) →
      (¬ StateFlushMayEnd s waterMark mask → vfeTurn s = .next s)
        ∧ (StateFlushMayEnd s waterMark mask →
            vfeTurn s = .next { s with vfe := { s.vfe with work := none, primSinceStateFlush := false } })

/-- An MI_FLUSH at the head of the stream stalls while anything of 70_reset_and_hazards.md R486 is in the pipeline, or a
request is set aside or waits at TD (log 28). With none of these it is taken off the stream, and then no primitive command
has run since a flush and no older contents of the ROB are visible (the notes of VFE: log 28; the older contents: log 8).
A change of pipeline, bases or SIP after a primitive command without a flush is refused (R488). -/
def Obligations.FlushWaitsForPipeline : Prop :=
  ∀ (s : State) (c : CsCommand) (rest : List StreamItem), s.cs.stream = .external c :: rest →
    s.ts.preemptPending = false →
    (c = .flush →
        (s.vfe.work ≠ none ∨ s.ts.rootQ ≠ [] ∨ s.ts.aside ≠ [] ∨ s.ts.childQ ≠ [] ∨ s.ts.rootCount ≠ 0
          ∨ s.ts.fence ≠ .none ∨ (∃ b ∈ s.vfe.pool.referenced, b = true) ∨ s.td.queue ≠ []
          ∨ s.td.freeSlots ≠ s.params.threadSlots) →
        csTurn s = .next s)
      ∧ (c = .flush → s.vfe.work = none → s.ts.rootQ = [] → s.ts.aside = [] → s.ts.childQ = [] → s.ts.rootCount = 0 →
          s.ts.fence = .none → (∀ b ∈ s.vfe.pool.referenced, b = false) → s.td.queue = [] →
          s.td.freeSlots = s.params.threadSlots →
          csTurn s
            = .next { s with
                cs := { s.cs with stream := rest }
                vfe := { s.vfe with primSinceFlush := false, primSinceStateFlush := false }
                stale := [] })
      ∧ ((c ≠ .flush ∧ ∀ on, c ≠ .arbitration on) → s.vfe.primSinceFlush = true → csTurn s = .refused .flushMissing)

/-! ### Primitive commands -/

/-- MEDIA_OBJECT with a free handle and room in RootQ: the head handle is referenced, the payload is in its entry, one
root request is queued (43_primitive_commands.md R300, 40_vfe_and_walker.md R164, R166; the two notes of VFE: log 28). -/
def Obligations.MediaObjectGeneratesRoot : Prop :=
  ∀ (c : MediaObject) (s : State),
    ObjectReady s c → s.vfe.pool.headFree = true → s.ts.rootQ.length < Config.rootQueueDepth →
    exec (.mediaObject c) s
      = .next { s with
          cs := { s.cs with stream := s.cs.stream.drop (c.inlineData.length + 6) }
          vfe := { s.vfe with
                   pool := ⟨s.vfe.pool.referenced.set s.vfe.pool.head true,
                            (s.vfe.pool.head + 1) % s.vfe.pool.referenced.length⟩
                   work := none, primSinceFlush := true, primSinceStateFlush := true }
          rob := s.rob.writeRun s.params.robRegisters (urbEntryBase s.vfe.record (BitVec.ofNat 16 s.vfe.pool.head)) (objectPayload s c)
          ts := { s.ts with
                  rootQ := s.ts.rootQ ++
                    [{ control :=
                         { interfaceDescriptorOffset := c.interfaceDescriptorOffset.setWidth 5
                           childrenPresent := c.childrenPresent, threadSync := c.threadSync
                           useScoreboard := c.useScoreboard, halfSlice := c.halfSlice
                           scoreboardMask := c.scoreboardMask, isPrt := false, fenceNeeded := false
                           fenceType := false, restart := false }
                       position := ⟨c.scoreboardX, c.scoreboardY, c.scoreboardColor⟩
                       handle := BitVec.ofNat 16 s.vfe.pool.head
                       payloadRegs := ceil8 c.inlineData.length + c.indirectDataLength.toNat / 32
                       scratchBase := s.vfe.record.scratchSpaceBasePointer
                       scratchSize := s.vfe.record.perThreadScratchSpace }] } }

/-- The payload of MEDIA_OBJECT in the URB entry of the head handle: inline DWords, the last register filled with zeros,
then the indirect bytes; no other ROB register changes
(43_primitive_commands.md R301, R304, R308; 20_memory.md R87, R90). -/
def Obligations.MediaObjectPayload : Prop :=
  ∀ (c : MediaObject) (s : State),
    ObjectReady s c → s.vfe.pool.headFree = true → Sparse.wf s.rob.regs = true →
    urbEntryBase s.vfe.record (BitVec.ofNat 16 s.vfe.pool.head)
      + (ceil8 c.inlineData.length + c.indirectDataLength.toNat / 32) ≤ s.params.robRegisters →
    ∃ t, exec (.mediaObject c) s = .next t
      ∧ (∀ j d, j < ceil8 c.inlineData.length → d < 8 →
          (t.rob.read (urbEntryBase s.vfe.record (BitVec.ofNat 16 s.vfe.pool.head) + j)).dword d
            = c.inlineData.getD (8 * j + d) 0)
      ∧ (∀ i b, i < c.indirectDataLength.toNat / 32 → b < 32 →
          byteOf (t.rob.read
              (urbEntryBase s.vfe.record (BitVec.ofNat 16 s.vfe.pool.head) + ceil8 c.inlineData.length + i)) b
            = Memory.read s.mem (s.cs.bases.indirectObject + c.indirectDataStartAddress.toNat + 32 * i + b))
      ∧ ∀ r,
          (r < urbEntryBase s.vfe.record (BitVec.ofNat 16 s.vfe.pool.head)
            ∨ urbEntryBase s.vfe.record (BitVec.ofNat 16 s.vfe.pool.head)
                + (ceil8 c.inlineData.length + c.indirectDataLength.toNat / 32) ≤ r) →
          t.rob.read r = s.rob.read r

/-- MEDIA_OBJECT_PRT as the first primitive command after a flush, with a free handle and room in RootQ: one persistent
root request, fixed to no scoreboard and no synchronization, with its fence
(43_primitive_commands.md R310, R314; 40_vfe_and_walker.md R164). That the context remembers the command is
60_exceptions.md R459; the two notes of VFE: log 28. -/
def Obligations.PrtGeneratesRoot : Prop :=
  ∀ (c : MediaObjectPrt) (s : State),
    PrtReady s c → s.vfe.primSinceFlush = false → s.vfe.pool.headFree = true →
    s.ts.rootQ.length < Config.rootQueueDepth →
    exec (.mediaObjectPrt c) s
      = .next { s with
          cs := { s.cs with stream := s.cs.stream.drop 16 }
          vfe := { s.vfe with
                   pool := ⟨s.vfe.pool.referenced.set s.vfe.pool.head true,
                            (s.vfe.pool.head + 1) % s.vfe.pool.referenced.length⟩
                   work := none, lastPrt := some c, primSinceFlush := true, primSinceStateFlush := true }
          rob := s.rob.writeRun s.params.robRegisters (urbEntryBase s.vfe.record (BitVec.ofNat 16 s.vfe.pool.head))
                   (inlineRegs c.inlineData)
          ts := { s.ts with
                  rootQ := s.ts.rootQ ++
                    [{ control :=
                         { interfaceDescriptorOffset := c.interfaceDescriptorOffset.setWidth 5
                           childrenPresent := c.childrenPresent, threadSync := false, useScoreboard := false
                           halfSlice := 0, scoreboardMask := 0, isPrt := true, fenceNeeded := c.fenceNeeded
                           fenceType := c.fenceType, restart := false }
                       position := ⟨0, 0, 0⟩
                       handle := BitVec.ofNat 16 s.vfe.pool.head
                       payloadRegs := 2
                       scratchBase := s.vfe.record.scratchSpaceBasePointer
                       scratchSize := s.vfe.record.perThreadScratchSpace }] } }

/-- Context restore executes the saved MEDIA_OBJECT_PRT again: the request and the payload of MEDIA_OBJECT_PRT, but for
Thread Restart Enable, and no DWord of the stream is taken (60_exceptions.md R459; 43_primitive_commands.md R310;
40_vfe_and_walker.md R164; that it is not refused for a primitive command before it: log 20; the two notes of VFE:
log 28). -/
def Obligations.ContextRestoreRestartsPrt : Prop :=
  ∀ (c : MediaObjectPrt) (s : State) (events : List Event),
    s.agenda = .contextRestore c :: events →
    PrtReady s c → s.vfe.work = none → s.ts.fence ≠ .vfeEntry → s.ts.preemptPending = false →
    s.vfe.pool.headFree = true → s.ts.rootQ.length < Config.rootQueueDepth →
    step s
      = .next { s with
          agenda := events
          vfe := { s.vfe with
                   pool := ⟨s.vfe.pool.referenced.set s.vfe.pool.head true,
                            (s.vfe.pool.head + 1) % s.vfe.pool.referenced.length⟩
                   lastPrt := some c, primSinceFlush := true, primSinceStateFlush := true }
          rob := s.rob.writeRun s.params.robRegisters (urbEntryBase s.vfe.record (BitVec.ofNat 16 s.vfe.pool.head))
                   (inlineRegs c.inlineData)
          ts := { s.ts with
                  rootQ := s.ts.rootQ ++
                    [{ control :=
                         { interfaceDescriptorOffset := c.interfaceDescriptorOffset.setWidth 5
                           childrenPresent := c.childrenPresent, threadSync := false, useScoreboard := false
                           halfSlice := 0, scoreboardMask := 0, isPrt := true, fenceNeeded := c.fenceNeeded
                           fenceType := c.fenceType, restart := true }
                       position := ⟨0, 0, 0⟩
                       handle := BitVec.ofNat 16 s.vfe.pool.head
                       payloadRegs := 2
                       scratchBase := s.vfe.record.scratchSpaceBasePointer
                       scratchSize := s.vfe.record.perThreadScratchSpace }] } }

/-- MEDIA_OBJECT_WALKER with a free handle and room in RootQ: the request of the first walk position is queued, the other
positions are left to VFE's later turns; a walk without positions takes no handle and queues nothing
(43_primitive_commands.md R320, 40_vfe_and_walker.md R164, R189; one thread a turn: log 31; the two notes of VFE:
log 28). -/
def Obligations.WalkerGeneratesFirstRoot : Prop :=
  (∀ (c : MediaObjectWalker) (s : State), WalkerReady s c → walkSeq c.walk = [] →
    exec (.mediaObjectWalker c) s
      = .next { s with
          cs := { s.cs with stream := s.cs.stream.drop (c.inlineData.length + 17) }
          vfe := { s.vfe with work := none, primSinceFlush := true, primSinceStateFlush := true } })
  ∧ ∀ (c : MediaObjectWalker) (s : State) (p : Point × BitVec 4) (rest : List (Point × BitVec 4)),
    WalkerReady s c → walkSeq c.walk = p :: rest →
    ceil8 c.inlineData.length ≤ s.vfe.record.urbEntryAllocationSize.toNat →
    s.vfe.pool.headFree = true → s.ts.rootQ.length < Config.rootQueueDepth →
    exec (.mediaObjectWalker c) s
      = .next { s with
          cs := { s.cs with stream := s.cs.stream.drop (c.inlineData.length + 17) }
          vfe := { s.vfe with
                   pool := ⟨s.vfe.pool.referenced.set s.vfe.pool.head true,
                            (s.vfe.pool.head + 1) % s.vfe.pool.referenced.length⟩
                   work :=
                     if rest = [] then none
                     else some (.generate ⟨walkerControl c, inlineRegs c.inlineData, rest.map walkPos, none⟩)
                   primSinceFlush := true, primSinceStateFlush := true }
          rob := s.rob.writeRun s.params.robRegisters (urbEntryBase s.vfe.record (BitVec.ofNat 16 s.vfe.pool.head))
                   (inlineRegs c.inlineData)
          ts := { s.ts with
                  rootQ := s.ts.rootQ ++
                    [{ control :=
                         { interfaceDescriptorOffset := c.interfaceDescriptorOffset.setWidth 5
                           childrenPresent := c.childrenPresent, threadSync := c.threadSync
                           useScoreboard := c.useScoreboard, halfSlice := 0, scoreboardMask := c.scoreboardMask
                           isPrt := false, fenceNeeded := false, fenceType := false, restart := false }
                       position := ⟨BitVec.ofInt 9 p.1.x, BitVec.ofInt 9 p.1.y, p.2⟩
                       handle := BitVec.ofNat 16 s.vfe.pool.head
                       payloadRegs := ceil8 c.inlineData.length
                       scratchBase := s.vfe.record.scratchSpaceBasePointer
                       scratchSize := s.vfe.record.perThreadScratchSpace }] } }

/-- VFE goes on with a walk, one position a turn: with a free handle and room in RootQ the next request is queued; with
RootQ full the handle is taken, the payload written, and the request waits in VFE before the positions still to come;
while the head handle is referenced it waits and nothing changes (40_vfe_and_walker.md R164, R166, R171, R189; one
thread a turn: log 31). -/
def Obligations.WalkGoesOn : Prop :=
  ∀ (s : State) (g : Generation) (p : WalkPos) (rest : List WalkPos),
    s.vfe.work = some (.generate g) → g.assembled = none → g.todo = p :: rest →
    (s.vfe.pool.headFree = true → s.ts.rootQ.length < Config.rootQueueDepth →
        vfeTurn s
          = .next { s with
              vfe := { s.vfe with
                       pool := s.vfe.pool.take
                       work := if rest = [] then none else some (.generate { g with todo := rest }) }
              rob := s.rob.writeRun s.params.robRegisters (urbEntryBase s.vfe.record (BitVec.ofNat 16 s.vfe.pool.head)) g.payload
              ts := { s.ts with
                      rootQ := s.ts.rootQ ++
                        [⟨g.control, p, BitVec.ofNat 16 s.vfe.pool.head, g.payload.length,
                          s.vfe.record.scratchSpaceBasePointer, s.vfe.record.perThreadScratchSpace⟩] } })
      ∧ (s.vfe.pool.headFree = true → Config.rootQueueDepth ≤ s.ts.rootQ.length →
          vfeTurn s
            = .next { s with
                vfe := { s.vfe with
                         pool := s.vfe.pool.take
                         work := some (.generate
                           { g with
                             todo := rest
                             assembled := some ⟨g.control, p, BitVec.ofNat 16 s.vfe.pool.head, g.payload.length,
                               s.vfe.record.scratchSpaceBasePointer, s.vfe.record.perThreadScratchSpace⟩ }) }
                rob := s.rob.writeRun s.params.robRegisters (urbEntryBase s.vfe.record (BitVec.ofNat 16 s.vfe.pool.head))
                         g.payload })
      ∧ (s.vfe.pool.headFree = false → vfeTurn s = .next s)

/-- Without a free handle at the pool head a primitive command is taken and held, MEDIA_OBJECT, MEDIA_OBJECT_PRT and
MEDIA_OBJECT_WALKER alike: no handle, no ROB register and no queue changes (40_vfe_and_walker.md R166, R171). That what is
left to do waits in `vfe.work` is log 31; the two notes of VFE are log 28. -/
def Obligations.PrimitiveWaitsForHandle : Prop :=
  ∀ s : State, s.vfe.pool.headFree = false →
    (∀ c : MediaObject, ObjectReady s c →
      exec (.mediaObject c) s
        = .next { s with
            cs := { s.cs with stream := s.cs.stream.drop (c.inlineData.length + 6) }
            vfe := { s.vfe with
                     work := some (.generate ⟨objectControl c, objectPayload s c,
                       [⟨c.scoreboardX, c.scoreboardY, c.scoreboardColor⟩], none⟩)
                     primSinceFlush := true, primSinceStateFlush := true } })
      ∧ (∀ c : MediaObjectPrt, PrtReady s c → s.vfe.primSinceFlush = false →
          exec (.mediaObjectPrt c) s
            = .next { s with
                cs := { s.cs with stream := s.cs.stream.drop 16 }
                vfe := { s.vfe with
                         work := some (.generate ⟨prtControl c false, inlineRegs c.inlineData, [⟨0, 0, 0⟩], none⟩)
                         lastPrt := some c, primSinceFlush := true, primSinceStateFlush := true } })
      ∧ ∀ c : MediaObjectWalker, WalkerReady s c → walkSeq c.walk ≠ [] →
          ceil8 c.inlineData.length ≤ s.vfe.record.urbEntryAllocationSize.toNat →
          exec (.mediaObjectWalker c) s
            = .next { s with
                cs := { s.cs with stream := s.cs.stream.drop (c.inlineData.length + 17) }
                vfe := { s.vfe with
                         work := some (.generate
                           ⟨walkerControl c, inlineRegs c.inlineData, (walkSeq c.walk).map walkPos, none⟩)
                         primSinceFlush := true, primSinceStateFlush := true } }

/-- With RootQ full a primitive command takes its handle and writes its payload, MEDIA_OBJECT, MEDIA_OBJECT_PRT and
MEDIA_OBJECT_WALKER alike; the request waits in VFE, before the positions still to come, changes nothing while RootQ is
full, and enters RootQ when there is room (40_vfe_and_walker.md R164, R171, 10_state.md R50; the wait in `vfe.work`: log 31;
the two notes of VFE: log 28). -/
def Obligations.PrimitiveWaitsForRootQ : Prop :=
  (∀ s : State, s.vfe.pool.headFree = true → Config.rootQueueDepth ≤ s.ts.rootQ.length →
    (∀ c : MediaObject, ObjectReady s c →
      exec (.mediaObject c) s
        = .next { s with
            cs := { s.cs with stream := s.cs.stream.drop (c.inlineData.length + 6) }
            vfe := { s.vfe with
                     pool := ⟨s.vfe.pool.referenced.set s.vfe.pool.head true,
                              (s.vfe.pool.head + 1) % s.vfe.pool.referenced.length⟩
                     work := some (.generate ⟨objectControl c, objectPayload s c, [],
                       some { control := objectControl c
                              position := ⟨c.scoreboardX, c.scoreboardY, c.scoreboardColor⟩
                              handle := BitVec.ofNat 16 s.vfe.pool.head
                              payloadRegs := ceil8 c.inlineData.length + c.indirectDataLength.toNat / 32
                              scratchBase := s.vfe.record.scratchSpaceBasePointer
                              scratchSize := s.vfe.record.perThreadScratchSpace }⟩)
                     primSinceFlush := true, primSinceStateFlush := true }
            rob := s.rob.writeRun s.params.robRegisters (urbEntryBase s.vfe.record (BitVec.ofNat 16 s.vfe.pool.head))
                     (objectPayload s c) })
      ∧ (∀ c : MediaObjectPrt, PrtReady s c → s.vfe.primSinceFlush = false →
          exec (.mediaObjectPrt c) s
            = .next { s with
                cs := { s.cs with stream := s.cs.stream.drop 16 }
                vfe := { s.vfe with
                         pool := ⟨s.vfe.pool.referenced.set s.vfe.pool.head true,
                                  (s.vfe.pool.head + 1) % s.vfe.pool.referenced.length⟩
                         work := some (.generate ⟨prtControl c false, inlineRegs c.inlineData, [],
                           some { control := prtControl c false
                                  position := ⟨0, 0, 0⟩
                                  handle := BitVec.ofNat 16 s.vfe.pool.head
                                  payloadRegs := 2
                                  scratchBase := s.vfe.record.scratchSpaceBasePointer
                                  scratchSize := s.vfe.record.perThreadScratchSpace }⟩)
                         lastPrt := some c, primSinceFlush := true, primSinceStateFlush := true }
                rob := s.rob.writeRun s.params.robRegisters
                         (urbEntryBase s.vfe.record (BitVec.ofNat 16 s.vfe.pool.head)) (inlineRegs c.inlineData) })
      ∧ ∀ (c : MediaObjectWalker) (p : Point × BitVec 4) (rest : List (Point × BitVec 4)),
          WalkerReady s c → walkSeq c.walk = p :: rest →
          ceil8 c.inlineData.length ≤ s.vfe.record.urbEntryAllocationSize.toNat →
          exec (.mediaObjectWalker c) s
            = .next { s with
                cs := { s.cs with stream := s.cs.stream.drop (c.inlineData.length + 17) }
                vfe := { s.vfe with
                         pool := ⟨s.vfe.pool.referenced.set s.vfe.pool.head true,
                                  (s.vfe.pool.head + 1) % s.vfe.pool.referenced.length⟩
                         work := some (.generate ⟨walkerControl c, inlineRegs c.inlineData, rest.map walkPos,
                           some { control := walkerControl c
                                  position := walkPos p
                                  handle := BitVec.ofNat 16 s.vfe.pool.head
                                  payloadRegs := ceil8 c.inlineData.length
                                  scratchBase := s.vfe.record.scratchSpaceBasePointer
                                  scratchSize := s.vfe.record.perThreadScratchSpace }⟩)
                         primSinceFlush := true, primSinceStateFlush := true }
                rob := s.rob.writeRun s.params.robRegisters
                         (urbEntryBase s.vfe.record (BitVec.ofNat 16 s.vfe.pool.head)) (inlineRegs c.inlineData) })
  ∧ ∀ (s : State) (g : Generation) (r : RootReq), s.vfe.work = some (.generate g) → g.assembled = some r →
      (s.ts.rootQ.length < Config.rootQueueDepth →
          vfeTurn s
            = .next { s with
                vfe := { s.vfe with work := if g.todo = [] then none else some (.generate { g with assembled := none }) }
                ts := { s.ts with rootQ := s.ts.rootQ ++ [r] } })
        ∧ (Config.rootQueueDepth ≤ s.ts.rootQ.length → vfeTurn s = .next s)

/-- The reference walk of one block that covers the whole frame, in raster order with unit steps, visits every position
of the frame for color 0 exactly once and no other (40_vfe_and_walker.md R187). -/
def Obligations.RasterWalkCoversFrame : Prop :=
  ∀ w : WalkerParams,
    w.dualMode = false → w.repel = false → w.middleLoopExtraSteps = 0 → w.colorCountMinusOne = 0 →
    w.globalStart = ⟨0, 0⟩ → w.localStart = ⟨0, 0⟩ → w.localOuterLoopStride = ⟨0, 1⟩ → w.localInnerLoopUnit = ⟨1, 0⟩ →
    w.globalOuterLoopStride = ⟨0, 511⟩ → w.globalInnerLoopUnit = ⟨511, 0⟩ →
    w.blockResolution = w.globalResolution →
    walkSeq w
      = (List.range w.globalResolution.y.toNat).flatMap fun y =>
          (List.range w.globalResolution.x.toNat).map fun x => (⟨(x : Int), (y : Int)⟩, 0)

/-- Every position of the reference walk lies in the frame, and its color is at most Color Count Minus One
(40_vfe_and_walker.md R187, R188). -/
def Obligations.ReferenceWalkStaysInFrame : Prop :=
  ∀ (w : WalkerParams) (p : Point × BitVec 4), axisAligned w = true → p ∈ walkSeq w →
    0 ≤ p.1.x ∧ p.1.x < w.globalResolution.x.toNat ∧ 0 ≤ p.1.y ∧ p.1.y < w.globalResolution.y.toNat
      ∧ p.2.toNat ≤ w.colorCountMinusOne.toNat

/-! ### Thread spawn messages -/

/-- TS_SPAWN_CHILD of either requester, whatever requests and threads TD has and whatever handle is named: the message
leaves ChildQ and TD gets one child request with the descriptor's kernel and modes and the child's image; no count, id,
slot or handle changes (45_messages.md R404, R405; 41_thread_spawner.md R202, R224, R225). The free-value counter moves on
(log 6); that a handle the pool does not have is no refusal is log 24. -/
def Obligations.SpawnChildRequestsChild : Prop :=
  ∀ (m : MsgFields) (s : State),
    m.eot = false →
    m.interfaceDescriptorOffset.toNat ≤ 30 → m.interfaceDescriptorOffset.toNat < s.rob.idtCount →
    m.offset.toNat + 1 + m.length.toNat ≤ s.vfe.record.urbEntryAllocationSize.toNat →
    ((childDescriptor s m).constantUrbReadLength = 0
      ∨ (childDescriptor s m).constantUrbReadOffset.toNat + (childDescriptor s m).constantUrbReadLength.toNat
          ≤ s.params.robRegisters - 33) →
    (childImage s m).length ≤ s.params.grfRegisters →
    ∃ t, exec (.tsSpawnChildRoot m) s = .next t ∧ exec (.tsSpawnChildChild m) s = .next t
      ∧ t = { s with
              ts := { s.ts with childQ := s.ts.childQ.tail }
              td := { s.td with
                      queue := s.td.queue ++
                        [{ kind := .child, kernel := (childDescriptor s m).kernelStartPointer
                           modes := modesOf s.params.modeBits (childDescriptorReg s m), halfSlice := 0, regs := childImage s m }] }
              freeCount := t.freeCount }

/-- The image of a child, when nothing was loaded while threads could spawn: R0 from its URB registers, then the
constants of its descriptor, then the rest of its URB registers; of a handle the pool does not have, the URB registers
are free and their number is the same
(41_thread_spawner.md R224, R226; 45_messages.md R390, R397; 42_state_commands.md R268; such a handle: log 24). -/
def Obligations.ChildImageContents : Prop :=
  ∀ (m : MsgFields) (s : State) (d : InterfaceDescriptor), s.stale = [] →
    d = descriptorOf (s.rob.read m.interfaceDescriptorOffset.toNat) →
    d.constantUrbReadOffset.toNat + d.constantUrbReadLength.toNat ≤ s.rob.curbeDefined →
    m.interfaceDescriptorOffset.toNat < s.rob.idtCount →
    (childImage s m).length = 1 + d.constantUrbReadLength.toNat + m.length.toNat
      ∧ (s.vfe.pool.has m.handle = true →
          (childImage s m).getD 0 0 = s.rob.read (urbEntryBase s.vfe.record m.handle + m.offset.toNat))
      ∧ (∀ i, i < d.constantUrbReadLength.toNat →
          (childImage s m).getD (1 + i) 0 = s.rob.read (32 + d.constantUrbReadOffset.toNat + i))
      ∧ ∀ i, i < m.length.toNat → s.vfe.pool.has m.handle = true →
          (childImage s m).getD (1 + d.constantUrbReadLength.toNat + i) 0
            = s.rob.read (urbEntryBase s.vfe.record m.handle + m.offset.toNat + 1 + i)

/-- The forms a child sends have the operands and the effect of those a root sends; their descriptors are 00003h and
00013h (45_messages.md R405, R407). -/
def Obligations.RequesterChangesNoSpawn : Prop :=
  ∀ (f : MsgFields) (s : State),
    exec (.tsSpawnChildChild f) s = exec (.tsSpawnChildRoot f) s
      ∧ exec (.tsSpawnRootChild f) s = exec (.tsSpawnRootRoot f) s
      ∧ encode (.tsSpawnChildChild f) = .message ⟨0x00003, f.eot, encodeM0 f⟩
      ∧ encode (.tsSpawnRootChild f) = .message ⟨0x00013, f.eot, encodeM0 f⟩

/-- A spawn message with EOT is refused, in all four forms (45_messages.md R401, 93_implementation_defined.md U17). -/
def Obligations.SpawnWithEotRefused : Prop :=
  ∀ (f : MsgFields) (s : State), f.eot = true →
    exec (.tsSpawnChildRoot f) s = .refused .spawnWithEot ∧ exec (.tsSpawnChildChild f) s = .refused .spawnWithEot
      ∧ exec (.tsSpawnRootRoot f) s = .refused .spawnWithEot ∧ exec (.tsSpawnRootChild f) s = .refused .spawnWithEot

/-- TS_SPAWN_ROOT of either requester, a synchronized root at the head of RootQ that may start, whatever handle is named:
both leave their queues, and the root is started with the message's URB registers in its image
(45_messages.md R406, R407; 41_thread_spawner.md R208, R209, R214, R220). The FFTID and the slot are free choices among
the free ones (log 6); the registers of a handle the pool does not have are free (log 24). -/
def Obligations.SpawnRootStartsRoot : Prop :=
  ∀ (m : MsgFields) (s : State) (r : RootReq) (queue : List RootReq),
    m.eot = false → s.ts.rootQ = r :: queue → r.control.threadSync = true → MayStart s r → NotSetAside s r →
    m.offset.toNat + m.length.toNat ≤ s.vfe.record.urbEntryAllocationSize.toNat →
    RootFits s r (some ⟨m.handle, m.offset, m.length⟩) →
    ∃ t f k, exec (.tsSpawnRootRoot m) s = .next t ∧ exec (.tsSpawnRootChild m) s = .next t
      ∧ f ∈ freeFftids s.ts ∧ k ∈ freeScratchSlots s.vfe.record s.ts
      ∧ t = startedAs s r f k (some ⟨m.handle, m.offset, m.length⟩)
              { s.ts with rootQ := queue, childQ := s.ts.childQ.tail } t.freeCount

/-- TS_SPAWN_ROOT waits while no synchronized root that may start is at the head of RootQ: nothing changes
(45_messages.md R406, 41_thread_spawner.md R202, R220). -/
def Obligations.SpawnRootWaits : Prop :=
  ∀ (m : MsgFields) (s : State), m.eot = false →
    (∀ r queue, s.ts.rootQ = r :: queue → r.control.threadSync = true → ¬ MayStart s r) →
    exec (.tsSpawnRootRoot m) s = .next s ∧ exec (.tsSpawnRootChild m) s = .next s

/-- TS_DEREF_URB.root: the handle is dereferenced; with EOT the thread's FFTID, scratch slot, place and scoreboard entry
are free again, without EOT nothing else is released (45_messages.md R410, 41_thread_spawner.md R216). That a second
thread with the same entry keeps it in the tracking set, a list with repeats of which `erase` takes one, is the model's
choice (log 14). -/
def Obligations.DerefUrbRootReleases : Prop :=
  ∀ (m : MsgFields) (s : State) (o : Outstanding),
    outstandingOf s.ts m.fftid = some o → o.childrenPresent = true → o.handle = m.handle → o.dereferenced = false →
    exec (.tsDerefUrbRoot m) s
      = .next { s with
          vfe := { s.vfe with
                   pool := { s.vfe.pool with referenced := s.vfe.pool.referenced.set m.handle.toNat false } }
          ts :=
            if m.eot = true then
              { s.ts with
                childQ := s.ts.childQ.tail, rootCount := s.ts.rootCount - 1
                fftids := s.ts.fftids.filter (· != m.fftid)
                scratch := s.ts.scratch.filter (·.2 != m.fftid)
                outstanding := s.ts.outstanding.filter (·.fftid != m.fftid)
                tracking := match o.entry with
                  | none => s.ts.tracking
                  | some e => s.ts.tracking.erase e }
            else
              { s.ts with
                childQ := s.ts.childQ.tail
                outstanding := s.ts.outstanding.map fun p =>
                  if p.fftid = m.fftid then { p with dereferenced := true } else p } }

/-- A second dereference, the dereference of a handle the thread does not hold, and an FFTID that is not outstanding are
refused (45_messages.md R410, R411; 93_implementation_defined.md U20). -/
def Obligations.WrongDereferenceRefused : Prop :=
  ∀ (m : MsgFields) (s : State),
    (outstandingOf s.ts m.fftid = none →
        exec (.tsDerefUrbRoot m) s = .refused .unknownFftid ∧ exec (.tsDerefNourbRoot m) s = .refused .unknownFftid)
      ∧ ∀ o, outstandingOf s.ts m.fftid = some o →
          ((o.childrenPresent = false ∨ o.handle ≠ m.handle) → exec (.tsDerefUrbRoot m) s = .refused .handleNotHeld)
            ∧ (o.childrenPresent = true → o.handle = m.handle → o.dereferenced = true →
                exec (.tsDerefUrbRoot m) s = .refused .secondDereference)

/-- TS_DEREF_NOURB.root: with EOT the thread's FFTID, scratch slot, place and scoreboard entry are free again; the
handle stays as it is; without EOT only the queue entry goes (45_messages.md R411, 41_thread_spawner.md R216). That a
second thread with the same entry keeps it in the tracking set, a list with repeats of which `erase` takes one, is the
model's choice (log 14). -/
def Obligations.DerefNourbRootReleases : Prop :=
  ∀ (m : MsgFields) (s : State) (o : Outstanding), outstandingOf s.ts m.fftid = some o →
    exec (.tsDerefNourbRoot m) s
      = .next { s with
          ts :=
            if m.eot = true then
              { s.ts with
                childQ := s.ts.childQ.tail, rootCount := s.ts.rootCount - 1
                fftids := s.ts.fftids.filter (· != m.fftid)
                scratch := s.ts.scratch.filter (·.2 != m.fftid)
                outstanding := s.ts.outstanding.filter (·.fftid != m.fftid)
                tracking := match o.entry with
                  | none => s.ts.tracking
                  | some e => s.ts.tracking.erase e }
            else { s.ts with childQ := s.ts.childQ.tail } }

/-- TS_DEREF_URB.child (descriptor 00002h) and TS_DEREF_NOURB.child (00012h): no resource is dereferenced and no state is
written, but the message's queue entry is free again (45_messages.md R414, R415). -/
def Obligations.ChildDereferenceDoesNothing : Prop :=
  ∀ (m : MsgFields) (s : State),
    exec (.tsDerefUrbChild m) s = .next { s with ts := { s.ts with childQ := s.ts.childQ.tail } }
      ∧ exec (.tsDerefNourbChild m) s = .next { s with ts := { s.ts with childQ := s.ts.childQ.tail } }
      ∧ encode (.tsDerefUrbChild m) = .message ⟨0x00002, m.eot, encodeM0 m⟩
      ∧ encode (.tsDerefNourbChild m) = .message ⟨0x00012, m.eot, encodeM0 m⟩

/-! ### TS, TD and the message bus -/

/-- With ChildQ empty, or held by a spawn-root message that finds no synchronized root: a head of RootQ that is no
synchronized root and may start leaves RootQ and is started; one that may not, or is a synchronized root, holds RootQ; one
that the non-stalling scoreboard must keep waiting is set aside. A request set aside is started when its dependencies are
clear and a root may start, and stays where it is while either is not so
(41_thread_spawner.md R202, R208 to R210, R212, R213, R214, R232; FFTID and slot: log 6; set aside, and that ChildQ does not
hold back a request set aside: log 15; RootQ served behind a held message: log 36). -/
def Obligations.RootQServed : Prop :=
  (∀ (s : State) (r : RootReq) (queue : List RootReq), s.ts.rootQ = r :: queue →
    (s.ts.childQ = []
      ∨ ∃ m rest, s.ts.childQ = m :: rest ∧ isSpawnRoot m = true ∧ m.eot = false
          ∧ (r.control.threadSync = false ∨ ¬ MayStart s r)) →
    ((r.control.threadSync = true ∨ ¬ MayStart s r) → tsTurn s = .next s)
      ∧ (r.control.threadSync = false → MayStart s r → s.vfe.record.scoreboardType = true →
          dependenciesClear s.vfe.record s.ts.tracking r = false →
          tsTurn s = .next { s with ts := { s.ts with rootQ := queue, aside := s.ts.aside ++ [⟨r, none⟩] } })
      ∧ (r.control.threadSync = false → MayStart s r → NotSetAside s r → RootFits s r none →
          ∃ t f k, tsTurn s = .next t ∧ f ∈ freeFftids s.ts ∧ k ∈ freeScratchSlots s.vfe.record s.ts
            ∧ t = startedAs s r f k none { s.ts with rootQ := queue } t.freeCount))
  ∧ ∀ (s : State) (index : Nat) (a : AsideReq), s.ts.aside[index]? = some a →
      ((¬ MayStart s a.req ∨ dependenciesClear s.vfe.record s.ts.tracking a.req = false) → tsAside index s = .next s)
        ∧ (MayStart s a.req → dependenciesClear s.vfe.record s.ts.tracking a.req = true → RootFits s a.req a.extra →
            ∃ t f k, tsAside index s = .next t ∧ f ∈ freeFftids s.ts ∧ k ∈ freeScratchSlots s.vfe.record s.ts
              ∧ t = startedAs s a.req f k a.extra { s.ts with aside := s.ts.aside.eraseIdx index } t.freeCount)

/-- The R0 header of a MEDIA_OBJECT or MEDIA_OBJECT_WALKER thread, field by field; every reserved bit is zero
(45_messages.md R393 to R395, 41_thread_spawner.md R209, 00_scope.md R8). Barrier.Offset is an argument of the model
(log 11); every root has a scratch pointer (log 32). -/
def Obligations.GenericHeaderFields : Prop :=
  ∀ (q : Config.Params) (r : RootReq) (desc : Reg) (f : BitVec 8) (k : Nat), r.control.isPrt = false →
    (rootHeader q r desc f k).dword 0 = r.control.scoreboardMask ++ 0#8 ++ r.handle
      ∧ (rootHeader q r desc f k).dword 1 = 0#7 ++ r.position.y ++ 0#7 ++ r.position.x
      ∧ bits ((rootHeader q r desc f k).dword 2) 0 4 = r.position.color
      ∧ bits ((rootHeader q r desc f k).dword 2) 4 5 = r.control.interfaceDescriptorOffset
      ∧ bits ((rootHeader q r desc f k).dword 2) 9 7 = 0 ∧ bits ((rootHeader q r desc f k).dword 2) 23 1 = 0
      ∧ bits ((rootHeader q r desc f k).dword 2) 16 7 = barrierOffset q desc
      ∧ bits ((rootHeader q r desc f k).dword 2) 24 4 = bits (desc.dword 5) 0 4
      ∧ bits ((rootHeader q r desc f k).dword 2) 28 4 = 0
      ∧ bits ((rootHeader q r desc f k).dword 3) 5 27 = bits (desc.dword 2) 5 27
      ∧ bits ((rootHeader q r desc f k).dword 3) 0 5 = 0#1 ++ r.scratchSize
      ∧ bits ((rootHeader q r desc f k).dword 4) 5 27 = bits (desc.dword 3) 5 27
      ∧ bits ((rootHeader q r desc f k).dword 4) 0 5 = 0
      ∧ bits ((rootHeader q r desc f k).dword 5) 0 8 = f ∧ bits ((rootHeader q r desc f k).dword 5) 8 2 = 0
      ∧ (bits ((rootHeader q r desc f k).dword 5) 10 22).toNat
          = (r.scratchBase.toNat + k * (r.scratchSize.toNat + 1)) % 2 ^ 22
      ∧ (rootHeader q r desc f k).dword 6 = 0 ∧ (rootHeader q r desc f k).dword 7 = 0

/-- The R0 header of a persistent root thread: as the generic one, but no scoreboard position and mask, and Thread
Restart Enable in bit 0 of R0.2; every reserved bit is zero (45_messages.md R393, R395, R396, 41_thread_spawner.md R209,
R239, 00_scope.md R8; R0.2: log 20). Barrier.Offset is an argument of the model (log 11); every root has a scratch
pointer (log 32). -/
def Obligations.PrtHeaderFields : Prop :=
  ∀ (q : Config.Params) (r : RootReq) (desc : Reg) (f : BitVec 8) (k : Nat), r.control.isPrt = true →
    (rootHeader q r desc f k).dword 0 = 0#16 ++ r.handle ∧ (rootHeader q r desc f k).dword 1 = 0
      ∧ ((rootHeader q r desc f k).dword 2).getLsbD 0 = r.control.restart
      ∧ bits ((rootHeader q r desc f k).dword 2) 1 3 = 0
      ∧ bits ((rootHeader q r desc f k).dword 2) 4 5 = r.control.interfaceDescriptorOffset
      ∧ bits ((rootHeader q r desc f k).dword 2) 9 7 = 0 ∧ bits ((rootHeader q r desc f k).dword 2) 23 1 = 0
      ∧ bits ((rootHeader q r desc f k).dword 2) 16 7 = barrierOffset q desc
      ∧ bits ((rootHeader q r desc f k).dword 2) 24 4 = bits (desc.dword 5) 0 4
      ∧ bits ((rootHeader q r desc f k).dword 2) 28 4 = 0
      ∧ bits ((rootHeader q r desc f k).dword 3) 5 27 = bits (desc.dword 2) 5 27
      ∧ bits ((rootHeader q r desc f k).dword 3) 0 5 = 0#1 ++ r.scratchSize
      ∧ bits ((rootHeader q r desc f k).dword 4) 5 27 = bits (desc.dword 3) 5 27
      ∧ bits ((rootHeader q r desc f k).dword 4) 0 5 = 0
      ∧ bits ((rootHeader q r desc f k).dword 5) 0 8 = f ∧ bits ((rootHeader q r desc f k).dword 5) 8 2 = 0
      ∧ (bits ((rootHeader q r desc f k).dword 5) 10 22).toNat
          = (r.scratchBase.toNat + k * (r.scratchSize.toNat + 1)) % 2 ^ 22
      ∧ (rootHeader q r desc f k).dword 6 = 0 ∧ (rootHeader q r desc f k).dword 7 = 0

/-- No step starts a root thread beyond Maximum Number of Threads plus one, behind a root-queue fence, or after the
preempt signal; and a step starts at most one (41_thread_spawner.md R210, R212, R213; 60_exceptions.md R456). -/
def Obligations.RootLimitKept : Prop :=
  ∀ s t : State, step s = .next t → s.ts.rootCount < t.ts.rootCount →
    t.ts.rootCount = s.ts.rootCount + 1 ∧ s.ts.rootCount ≤ s.vfe.record.maximumNumberOfThreads.toNat
      ∧ s.ts.fence ≠ .rootQueue ∧ s.ts.preemptSent = false

/-- The instances a request depends on: one for each scoreboard enabled in both masks, at that scoreboard's relative
distance, of the same color; none if the scoreboard is off or the command does not use it
(41_thread_spawner.md R231, R234; same color: log 14). -/
def Obligations.ScoreboardDependencies : Prop :=
  ∀ (v : VfeRecord) (r : RootReq) (d : SbInstance),
    d ∈ dependencies v r ↔
      v.scoreboardEnable = true ∧ r.control.useScoreboard = true
        ∧ ∃ n : Fin 8, r.control.scoreboardMask.getLsbD n.val = true ∧ v.scoreboardMask.getLsbD n.val = true
            ∧ d.x = (r.position.x.toNat : Int) + v.deltas[n].x.toInt
            ∧ d.y = (r.position.y.toNat : Int) + v.deltas[n].y.toInt ∧ d.color = r.position.color

/-- TD's turn with a free slot the request may use: the thread is created at its kernel's address with the image as its
registers; the handle of a root without children is dereferenced; a persistent root that needs it sets its fence
(41_thread_spawner.md R204, R205, R213, R236; 10_state.md R67). That threads are named by a count, which moves on, is the
model's choice (log 22), and that the dereference and the fence come in the same step as the service is log 16. -/
def Obligations.ThreadDispatcherServes : Prop :=
  ∀ (s : State) (q : TdReq) (queue : List TdReq) (h : HalfSlice),
    s.td.queue = q :: queue → 0 < s.td.freeSlots →
    (q.halfSlice = 0 ∨ (q.halfSlice = 1 ∧ h = .zero) ∨ (q.halfSlice = 2 ∧ h = .one)) →
    ∃ th, tdTurn h s
      = { s with
          td := { queue := queue, threads := s.td.threads ++ [th], freeSlots := s.td.freeSlots - 1
                  nextThread := s.td.nextThread + 1 }
          vfe :=
            match q.kind with
            | .child => s.vfe
            | .root a => if a.childrenPresent = true then s.vfe
                         else { s.vfe with
                                pool := { s.vfe.pool with
                                          referenced := s.vfe.pool.referenced.set a.handle.toNat false } }
          ts := { s.ts with
                  fence :=
                    match q.kind with
                    | .child => s.ts.fence
                    | .root a => if a.isPrt = true ∧ a.fenceNeeded = true then
                                   (if a.fenceType = true then .vfeEntry else .rootQueue)
                                 else s.ts.fence } }
      ∧ th.ip = s.cs.bases.instruction + q.kernel.toNat * 64 ∧ th.regs = q.regs ∧ th.modes = q.modes
      ∧ th.halfSlice = h ∧ th.pending = none ∧ th.ended = false

/-- The three exception enables of a descriptor reach CR0.1 of every thread dispatched with it: Illegal Opcode bit 12,
MaskStack bit 11, Software bit 13 (42_state_commands.md R264, R266). That MaskStack is bit 11 of descriptor DWord 1 is R264
(a), an inference the spec marks as derived; the other two positions are arguments of the model (log 30). -/
def Obligations.ExceptionEnablesReachThread : Prop :=
  ∀ (s u : State) (h : HalfSlice),
    (∀ (r : RootReq) (x : Option UrbRef),
      (cr01Enables (threadFor u (rootTdReq s r x) h).modes.exceptions).getLsbD 12
          = ((rootDescriptor s r).dword 1).getLsbD (illegalOpcodeEnableBit s.params.modeBits)
        ∧ (cr01Enables (threadFor u (rootTdReq s r x) h).modes.exceptions).getLsbD 11
            = ((rootDescriptor s r).dword 1).getLsbD 11
        ∧ (cr01Enables (threadFor u (rootTdReq s r x) h).modes.exceptions).getLsbD 13
            = ((rootDescriptor s r).dword 1).getLsbD (softwareEnableBit s.params.modeBits))
      ∧ ∀ m : MsgFields,
          (cr01Enables (threadFor u (childTdReq s m) h).modes.exceptions).getLsbD 12
              = ((childDescriptorReg s m).dword 1).getLsbD (illegalOpcodeEnableBit s.params.modeBits)
            ∧ (cr01Enables (threadFor u (childTdReq s m) h).modes.exceptions).getLsbD 11
                = ((childDescriptorReg s m).dword 1).getLsbD 11
            ∧ (cr01Enables (threadFor u (childTdReq s m) h).modes.exceptions).getLsbD 13
                = ((childDescriptorReg s m).dword 1).getLsbD (softwareEnableBit s.params.modeBits)

/-- A thread starts at the Instruction Base plus its descriptor's Kernel Start Pointer, DWord 0 bits 31:6, times 64: root
threads and child threads (42_state_commands.md R263). -/
def Obligations.ThreadStartsAtKernel : Prop :=
  ∀ (s u : State) (h : HalfSlice),
    (∀ (r : RootReq) (x : Option UrbRef),
      (threadFor u (rootTdReq s r x) h).ip
        = u.cs.bases.instruction + (bits ((rootDescriptor s r).dword 0) 6 26).toNat * 64)
      ∧ ∀ (m : MsgFields) (desc : Reg), childDescriptor s m = descriptorOf desc →
          (threadFor u (childTdReq s m) h).ip = u.cs.bases.instruction + (bits (desc.dword 0) 6 26).toNat * 64

/-- The bus lets a thread's held message into ChildQ when there is room: at the end of the queue, a spawn message clears
the PRT fence, EOT ends the thread; with ChildQ full the thread waits and nothing changes
(41_thread_spawner.md R203, R227; 45_messages.md R401, R408; 60_exceptions.md R446). That a child request keeps its entry
until TD can accept it is the model's reading (log 16). -/
def Obligations.MessageAccepted : Prop :=
  ∀ (s : State) (th : Thread) (m : SendMsg), threadOf s.td th.id = some th → th.pending = some m →
    (s.params.childQueueDepth ≤ s.ts.childQ.length + unacceptedChildren s.td → busAccept th.id s = .next s)
      ∧ (s.ts.childQ.length + unacceptedChildren s.td < s.params.childQueueDepth → messageMbz m = true →
          busAccept th.id s
            = .next { s with
                ts := { s.ts with
                        childQ := s.ts.childQ ++ [m]
                        fence := if m.desc.getLsbD 0 = true then .none else s.ts.fence }
                td := { s.td with
                        threads := s.td.threads.map fun u =>
                          if u.id = th.id then { th with pending := none, ended := m.eot } else u } })

/-- A fence that is set is cleared only by the acceptance of a spawn message, or by the completion of a context switch
(41_thread_spawner.md R203, 45_messages.md R408; the latter: log 19). -/
def Obligations.FenceClearedOnlyBySpawn : Prop :=
  ∀ s t : State, step s = .next t → s.ts.fence ≠ .none → t.ts.fence = .none →
    (∃ id th m, (nextEvent s).1 = .busAccept id ∧ threadOf s.td id = some th ∧ th.pending = some m ∧ isSpawn m = true)
      ∨ ∃ stream, (nextEvent s).1 = .switchComplete stream

/-- The pipeline never writes graphics memory: only the host or a thread does (20_memory.md R85 to R87, 10_state.md
R34). -/
def Obligations.PipelineWritesNoMemory : Prop :=
  ∀ s t : State, step s = .next t → (∀ a bytes, (nextEvent s).1 ≠ .memWrite a bytes) → t.mem = s.mem

/-- The VFE state record changes only when VFE executes MEDIA_VFE_STATE, barriers only when it executes
MEDIA_GATEWAY_STATE, and the device's sizes never (10_state.md R35, R60; 00_scope.md R8, which calls them arguments of the
model: log 10). -/
def Obligations.RecordWrittenOnlyByItsCommand : Prop :=
  ∀ s t : State, step s = .next t →
    (t.vfe.record ≠ s.vfe.record →
        (nextEvent s).1 = .vfeTurn ∧ ∃ c rest, decodeCommand (leadingDWords s.cs.stream) = .ok (.mediaVfeState c, rest)
          ∧ t.vfe.record = c.fields)
      ∧ (t.gateway.barriers ≠ s.gateway.barriers →
          (nextEvent s).1 = .vfeTurn ∧ ∃ c rest,
            decodeCommand (leadingDWords s.cs.stream) = .ok (.mediaGatewayState c, rest))
      ∧ t.params = s.params

/-- A write to graphics memory puts each byte in its place and leaves every other byte alone (10_state.md R34,
20_memory.md R81). The canonical form it starts from and keeps is the model's (log 3). -/
def Obligations.MemoryReadAfterWrite : Prop :=
  ∀ (m : List Host.Cell) (a b : Nat) (bytes : List Byte), Memory.wf m = true →
    Memory.wf (Memory.write m a bytes) = true
      ∧ Memory.read (Memory.write m a bytes) b
          = if a ≤ b ∧ b < a + bytes.length then bytes.getD (b - a) 0 else Memory.read m b

/-! ### Invariants every step keeps -/

/-- The stores stay in canonical form: graphics memory and every version of the ROB (20_memory.md R81, 10_state.md R45;
the form is the model's: log 3). -/
def Obligations.StoresStayCanonical : Prop :=
  ∀ s t : State, storesCanonical s = true → step s = .next t → storesCanonical t = true

/-- TS's counts agree with its records, whatever happens: RootCount counts the outstanding roots, the FFTIDs and scratch
slots in use are exactly theirs, and no two outstanding roots share an FFTID or a scratch slot
(10_state.md R52 to R54, 41_thread_spawner.md R208, R209, R214, R216). -/
def Obligations.RecordsStayInAgreement : Prop :=
  ∀ s t : State, recordsAgree s.ts → step s = .next t → recordsAgree t.ts

/-- Free slots and threads add up to the slots there are, and each thread keeps a name of its own
(10_state.md R62, 41_thread_spawner.md R204, 45_messages.md R401; the names are the model's: log 22). -/
def Obligations.SlotsStayInAgreement : Prop :=
  ∀ s t : State, slotsAgree s.params s.td → namesAgree s.td → step s = .next t →
    slotsAgree t.params t.td ∧ namesAgree t.td

/-- RootQ and ChildQ never exceed their depths, ChildQ with the child requests TD cannot accept (10_state.md R50, R51;
41_thread_spawner.md R203, R227; 60_exceptions.md R446; the depths: log 9, 10; what ChildQ counts: log 16). -/
def Obligations.QueuesStayBounded : Prop :=
  ∀ s t : State, queuesBounded s → step s = .next t → queuesBounded t

/-- The pool has as many handles as the record says and its head is one of them; the record, once written, is in range
and within the ROB budget (40_vfe_and_walker.md R166, R167; 42_state_commands.md R250, R252; handles as indices: log 24). -/
def Obligations.PoolStaysInAgreement : Prop :=
  ∀ s t : State, poolAgrees s.vfe → (s.vfe.loaded = true → InRange s.params s.vfe.record ∧ InBudget s.params s.vfe.record) →
    step s = .next t →
    poolAgrees t.vfe ∧ (t.vfe.loaded = true → InRange t.params t.vfe.record ∧ InBudget t.params t.vfe.record)

/-- Every invariant holds right after reset, whatever the device's sizes (70_reset_and_hazards.md R480, 00_scope.md R8; the
invariants are the model's: log 3, log 9, log 10, log 22, log 24). -/
def Obligations.InvariantsHoldAtReset : Prop :=
  ∀ p : Config.Params,
    storesCanonical (State.resetWith p) = true ∧ recordsAgree (State.resetWith p).ts
      ∧ slotsAgree p (State.resetWith p).td ∧ namesAgree (State.resetWith p).td
      ∧ queuesBounded (State.resetWith p) ∧ poolAgrees (State.resetWith p).vfe
      ∧ (State.resetWith p).vfe.loaded = false ∧ (State.resetWith p).params = p
      ∧ State.reset = State.resetWith Config.defaults

/-- The model start state, the spec's own choice (its decision D19): the media pipeline selected, nothing in flight, no
descriptor and no handle, all slots free (70_reset_and_hazards.md R480); at the spec's default sizes (00_scope.md R8,
log 10), the open bit positions (log 30) and the default Barrier.Offset (log 11). That nothing is set aside, requested at TD or held by VFE is the model's reading of 'nothing in flight'
(log 1). -/
def Obligations.StartState : Prop :=
  State.reset.cs.pipeline = .media ∧ State.reset.vfe.loaded = false ∧ State.reset.rob.idtCount = 0
    ∧ State.reset.rob.curbeLength = 0 ∧ State.reset.vfe.pool.referenced = [] ∧ State.reset.ts.rootQ = []
    ∧ State.reset.ts.childQ = [] ∧ State.reset.ts.rootCount = 0 ∧ State.reset.ts.fftids = []
    ∧ State.reset.ts.scratch = [] ∧ State.reset.ts.outstanding = [] ∧ State.reset.ts.fence = .none
    ∧ State.reset.ts.preemptPending = false ∧ State.reset.ts.preemptSent = false ∧ State.reset.vfe.lastPrt = none
    ∧ State.reset.ts.tracking = [] ∧ State.reset.td.freeSlots = 60 ∧ State.reset.td.threads = []
    ∧ State.reset.td.queue = [] ∧ State.reset.ts.aside = [] ∧ State.reset.vfe.work = none
    ∧ State.reset.params = ⟨1024, 60, 128, 8, Config.modeBits, []⟩

/-! ### Preemption and data formats -/

/-- The preempt signal is sent only while a switch is pending, when VFE has no command and RootQ is empty, and without
Fast Preempt only when at most one root is outstanding and ChildQ is empty. The switch completes once the signal has been
sent and nothing is outstanding, and then no switch is pending, no fence is set and the next context's stream is there;
before, it does not (60_exceptions.md R456, R458, R460; when, and that the fence goes: log 19; the PRT mark: log 43). The
model's choices: 'ChildQ empty' of R456 and R458 says that ChildQ holds no message, whatever child requests wait at TD and
keep ChildQ entries taken (log 51); the one root may be no PRT (log 57). -/
def Obligations.PreemptSentWhenReady : Prop :=
  (∀ s t : State, step s = .next t → s.ts.preemptSent = false → t.ts.preemptSent = true →
    s.ts.preemptPending = true ∧ s.vfe.work = none ∧ s.ts.rootQ = []
      ∧ (s.vfe.record.fastPreempt = true ∨ (s.ts.rootCount ≤ 1 ∧ s.ts.childQ = [])))
  ∧ ∀ (s : State) (events : List Event) (stream : List StreamItem), s.agenda = .switchComplete stream :: events →
      (s.ts.preemptPending = true → s.ts.preemptSent = true → s.vfe.work = none → s.ts.rootQ = [] → s.ts.aside = [] →
        s.ts.childQ = [] → s.ts.rootCount = 0 → (∀ b ∈ s.vfe.pool.referenced, b = false) →
        step s
          = .next { s with
              agenda := events
              cs := { s.cs with stream := stream }
              vfe := { s.vfe with lastPrt := none }
              ts := { s.ts with preemptPending := false, preemptSent := false, fence := .none } })
        ∧ ((s.ts.preemptPending = false ∨ s.ts.preemptSent = false ∨ s.vfe.work ≠ none ∨ s.ts.rootQ ≠ []
              ∨ s.ts.aside ≠ [] ∨ s.ts.childQ ≠ [] ∨ s.ts.rootCount ≠ 0 ∨ ∃ b ∈ s.vfe.pool.referenced, b = true) →
            step s = .next { s with agenda := events })

/-- MvSize from the macroblock parameters, line by line of Table 1-17 (44_macroblock_data_formats.md R353). -/
def Obligations.MvSizeTable : Prop :=
  (∀ t sh pm, Macroblock.mvSize true t sh pm = some 0)
    ∧ (∀ t sh pm, 1 ≤ t → t ≤ 3 → Macroblock.mvSize false t sh pm = some 2)
    ∧ (∀ t sh pm, 4 ≤ t → t ≤ 21 → Macroblock.mvSize false t sh pm = some 8)
    ∧ (∀ pm, Macroblock.mvSize false 22 0 pm = some 8)
    ∧ (∀ sh pm, 0 < sh → pm < 2 → Macroblock.mvSize false 22 sh pm = some 16)
    ∧ (∀ sh pm, 0 < sh → pm = 2 → Macroblock.mvSize false 22 sh pm = some 32)

/-- A residual coefficient DWord is value, index and end-of-block, and is read back as what was written
(44_macroblock_data_formats.md R360). That a DWord of value 0 is read too, in every block, is the model's choice: R360 says
that only the non-zero coefficients are present (log 55). -/
def Obligations.CoefficientRoundTrip : Prop :=
  ∀ c : Macroblock.Coefficient, Macroblock.coefficientOf (Macroblock.coefficientDWord c) = some c
end

