-- ==== Sys2Proof/Laws/State.lean ====
section
/-! SUPPORT. Laws/State.lean: one lemma per field per update of the state, true by rfl, so that no proof unfolds a record
update; and what the operations that only choose between updates leave alone. -/

namespace Sys2Proof.Laws

open Sys2Proof Sys2Proof.Machine

/-! ### Updates of the state: the fields they leave alone -/

@[simp] theorem dropStream_vfe (s : State) (n : Nat) : (s.dropStream n).vfe = s.vfe := rfl
@[simp] theorem dropStream_rob (s : State) (n : Nat) : (s.dropStream n).rob = s.rob := rfl
@[simp] theorem dropStream_stale (s : State) (n : Nat) : (s.dropStream n).stale = s.stale := rfl
@[simp] theorem dropStream_ts (s : State) (n : Nat) : (s.dropStream n).ts = s.ts := rfl
@[simp] theorem dropStream_td (s : State) (n : Nat) : (s.dropStream n).td = s.td := rfl
@[simp] theorem dropStream_gateway (s : State) (n : Nat) : (s.dropStream n).gateway = s.gateway := rfl
@[simp] theorem dropStream_mem (s : State) (n : Nat) : (s.dropStream n).mem = s.mem := rfl
@[simp] theorem dropStream_agenda (s : State) (n : Nat) : (s.dropStream n).agenda = s.agenda := rfl
@[simp] theorem dropStream_freeCount (s : State) (n : Nat) : (s.dropStream n).freeCount = s.freeCount := rfl
@[simp] theorem dropStream_params (s : State) (n : Nat) : (s.dropStream n).params = s.params := rfl

@[simp] theorem takeCommand_vfe (s : State) (l : BitVec 16) : (s.takeCommand l).vfe = s.vfe := rfl
@[simp] theorem takeCommand_rob (s : State) (l : BitVec 16) : (s.takeCommand l).rob = s.rob := rfl
@[simp] theorem takeCommand_stale (s : State) (l : BitVec 16) : (s.takeCommand l).stale = s.stale := rfl
@[simp] theorem takeCommand_ts (s : State) (l : BitVec 16) : (s.takeCommand l).ts = s.ts := rfl
@[simp] theorem takeCommand_td (s : State) (l : BitVec 16) : (s.takeCommand l).td = s.td := rfl
@[simp] theorem takeCommand_gateway (s : State) (l : BitVec 16) : (s.takeCommand l).gateway = s.gateway := rfl
@[simp] theorem takeCommand_mem (s : State) (l : BitVec 16) : (s.takeCommand l).mem = s.mem := rfl
@[simp] theorem takeCommand_agenda (s : State) (l : BitVec 16) : (s.takeCommand l).agenda = s.agenda := rfl
@[simp] theorem takeCommand_freeCount (s : State) (l : BitVec 16) : (s.takeCommand l).freeCount = s.freeCount := rfl
@[simp] theorem takeCommand_params (s : State) (l : BitVec 16) : (s.takeCommand l).params = s.params := rfl

@[simp] theorem dereference_cs (s : State) (h : BitVec 16) : (s.dereference h).cs = s.cs := rfl
@[simp] theorem dereference_rob (s : State) (h : BitVec 16) : (s.dereference h).rob = s.rob := rfl
@[simp] theorem dereference_stale (s : State) (h : BitVec 16) : (s.dereference h).stale = s.stale := rfl
@[simp] theorem dereference_ts (s : State) (h : BitVec 16) : (s.dereference h).ts = s.ts := rfl
@[simp] theorem dereference_td (s : State) (h : BitVec 16) : (s.dereference h).td = s.td := rfl
@[simp] theorem dereference_gateway (s : State) (h : BitVec 16) : (s.dereference h).gateway = s.gateway := rfl
@[simp] theorem dereference_mem (s : State) (h : BitVec 16) : (s.dereference h).mem = s.mem := rfl
@[simp] theorem dereference_agenda (s : State) (h : BitVec 16) : (s.dereference h).agenda = s.agenda := rfl
@[simp] theorem dereference_freeCount (s : State) (h : BitVec 16) : (s.dereference h).freeCount = s.freeCount := rfl
@[simp] theorem dereference_params (s : State) (h : BitVec 16) : (s.dereference h).params = s.params := rfl

@[simp] theorem setWork_cs (s : State) (w : Option VfeWork) : (s.setWork w).cs = s.cs := rfl
@[simp] theorem setWork_rob (s : State) (w : Option VfeWork) : (s.setWork w).rob = s.rob := rfl
@[simp] theorem setWork_stale (s : State) (w : Option VfeWork) : (s.setWork w).stale = s.stale := rfl
@[simp] theorem setWork_ts (s : State) (w : Option VfeWork) : (s.setWork w).ts = s.ts := rfl
@[simp] theorem setWork_td (s : State) (w : Option VfeWork) : (s.setWork w).td = s.td := rfl
@[simp] theorem setWork_gateway (s : State) (w : Option VfeWork) : (s.setWork w).gateway = s.gateway := rfl
@[simp] theorem setWork_mem (s : State) (w : Option VfeWork) : (s.setWork w).mem = s.mem := rfl
@[simp] theorem setWork_agenda (s : State) (w : Option VfeWork) : (s.setWork w).agenda = s.agenda := rfl
@[simp] theorem setWork_freeCount (s : State) (w : Option VfeWork) : (s.setWork w).freeCount = s.freeCount := rfl
@[simp] theorem setWork_params (s : State) (w : Option VfeWork) : (s.setWork w).params = s.params := rfl

@[simp] theorem enqueueRoot_cs (s : State) (r : RootReq) : (s.enqueueRoot r).cs = s.cs := rfl
@[simp] theorem enqueueRoot_vfe (s : State) (r : RootReq) : (s.enqueueRoot r).vfe = s.vfe := rfl
@[simp] theorem enqueueRoot_rob (s : State) (r : RootReq) : (s.enqueueRoot r).rob = s.rob := rfl
@[simp] theorem enqueueRoot_stale (s : State) (r : RootReq) : (s.enqueueRoot r).stale = s.stale := rfl
@[simp] theorem enqueueRoot_td (s : State) (r : RootReq) : (s.enqueueRoot r).td = s.td := rfl
@[simp] theorem enqueueRoot_gateway (s : State) (r : RootReq) : (s.enqueueRoot r).gateway = s.gateway := rfl
@[simp] theorem enqueueRoot_mem (s : State) (r : RootReq) : (s.enqueueRoot r).mem = s.mem := rfl
@[simp] theorem enqueueRoot_agenda (s : State) (r : RootReq) : (s.enqueueRoot r).agenda = s.agenda := rfl
@[simp] theorem enqueueRoot_freeCount (s : State) (r : RootReq) : (s.enqueueRoot r).freeCount = s.freeCount := rfl
@[simp] theorem enqueueRoot_params (s : State) (r : RootReq) : (s.enqueueRoot r).params = s.params := rfl

@[simp] theorem writePayload_cs (s : State) (p : List Reg) : (s.writePayload p).cs = s.cs := rfl
@[simp] theorem writePayload_stale (s : State) (p : List Reg) : (s.writePayload p).stale = s.stale := rfl
@[simp] theorem writePayload_ts (s : State) (p : List Reg) : (s.writePayload p).ts = s.ts := rfl
@[simp] theorem writePayload_td (s : State) (p : List Reg) : (s.writePayload p).td = s.td := rfl
@[simp] theorem writePayload_gateway (s : State) (p : List Reg) : (s.writePayload p).gateway = s.gateway := rfl
@[simp] theorem writePayload_mem (s : State) (p : List Reg) : (s.writePayload p).mem = s.mem := rfl
@[simp] theorem writePayload_agenda (s : State) (p : List Reg) : (s.writePayload p).agenda = s.agenda := rfl
@[simp] theorem writePayload_freeCount (s : State) (p : List Reg) : (s.writePayload p).freeCount = s.freeCount := rfl
@[simp] theorem writePayload_params (s : State) (p : List Reg) : (s.writePayload p).params = s.params := rfl

@[simp] theorem popChildQ_cs (s : State) : (s.popChildQ).cs = s.cs := rfl
@[simp] theorem popChildQ_vfe (s : State) : (s.popChildQ).vfe = s.vfe := rfl
@[simp] theorem popChildQ_rob (s : State) : (s.popChildQ).rob = s.rob := rfl
@[simp] theorem popChildQ_stale (s : State) : (s.popChildQ).stale = s.stale := rfl
@[simp] theorem popChildQ_td (s : State) : (s.popChildQ).td = s.td := rfl
@[simp] theorem popChildQ_gateway (s : State) : (s.popChildQ).gateway = s.gateway := rfl
@[simp] theorem popChildQ_mem (s : State) : (s.popChildQ).mem = s.mem := rfl
@[simp] theorem popChildQ_agenda (s : State) : (s.popChildQ).agenda = s.agenda := rfl
@[simp] theorem popChildQ_freeCount (s : State) : (s.popChildQ).freeCount = s.freeCount := rfl
@[simp] theorem popChildQ_params (s : State) : (s.popChildQ).params = s.params := rfl

@[simp] theorem popRootQ_cs (s : State) : (s.popRootQ).cs = s.cs := rfl
@[simp] theorem popRootQ_vfe (s : State) : (s.popRootQ).vfe = s.vfe := rfl
@[simp] theorem popRootQ_rob (s : State) : (s.popRootQ).rob = s.rob := rfl
@[simp] theorem popRootQ_stale (s : State) : (s.popRootQ).stale = s.stale := rfl
@[simp] theorem popRootQ_td (s : State) : (s.popRootQ).td = s.td := rfl
@[simp] theorem popRootQ_gateway (s : State) : (s.popRootQ).gateway = s.gateway := rfl
@[simp] theorem popRootQ_mem (s : State) : (s.popRootQ).mem = s.mem := rfl
@[simp] theorem popRootQ_agenda (s : State) : (s.popRootQ).agenda = s.agenda := rfl
@[simp] theorem popRootQ_freeCount (s : State) : (s.popRootQ).freeCount = s.freeCount := rfl
@[simp] theorem popRootQ_params (s : State) : (s.popRootQ).params = s.params := rfl

@[simp] theorem popBoth_cs (s : State) : (s.popBoth).cs = s.cs := rfl
@[simp] theorem popBoth_vfe (s : State) : (s.popBoth).vfe = s.vfe := rfl
@[simp] theorem popBoth_rob (s : State) : (s.popBoth).rob = s.rob := rfl
@[simp] theorem popBoth_stale (s : State) : (s.popBoth).stale = s.stale := rfl
@[simp] theorem popBoth_td (s : State) : (s.popBoth).td = s.td := rfl
@[simp] theorem popBoth_gateway (s : State) : (s.popBoth).gateway = s.gateway := rfl
@[simp] theorem popBoth_mem (s : State) : (s.popBoth).mem = s.mem := rfl
@[simp] theorem popBoth_agenda (s : State) : (s.popBoth).agenda = s.agenda := rfl
@[simp] theorem popBoth_freeCount (s : State) : (s.popBoth).freeCount = s.freeCount := rfl
@[simp] theorem popBoth_params (s : State) : (s.popBoth).params = s.params := rfl

/-! ### Updates of the state: the field they change -/

@[simp] theorem dropStream_cs_stream (s : State) (n : Nat) : (s.dropStream n).cs.stream = s.cs.stream.drop n := rfl
@[simp] theorem dropStream_cs_pipeline (s : State) (n : Nat) : (s.dropStream n).cs.pipeline = s.cs.pipeline := rfl
@[simp] theorem dropStream_cs_bases (s : State) (n : Nat) : (s.dropStream n).cs.bases = s.cs.bases := rfl
@[simp] theorem dropStream_cs_sip (s : State) (n : Nat) : (s.dropStream n).cs.sip = s.cs.sip := rfl
@[simp] theorem dropStream_cs_arbitrationOn (s : State) (n : Nat) : (s.dropStream n).cs.arbitrationOn = s.cs.arbitrationOn := rfl

@[simp] theorem takeCommand_cs_stream (s : State) (l : BitVec 16) : (s.takeCommand l).cs.stream = s.cs.stream.drop (l.toNat + 2) := rfl
@[simp] theorem takeCommand_cs_pipeline (s : State) (l : BitVec 16) : (s.takeCommand l).cs.pipeline = s.cs.pipeline := rfl
@[simp] theorem takeCommand_cs_bases (s : State) (l : BitVec 16) : (s.takeCommand l).cs.bases = s.cs.bases := rfl
@[simp] theorem takeCommand_cs_sip (s : State) (l : BitVec 16) : (s.takeCommand l).cs.sip = s.cs.sip := rfl
@[simp] theorem takeCommand_cs_arbitrationOn (s : State) (l : BitVec 16) : (s.takeCommand l).cs.arbitrationOn = s.cs.arbitrationOn := rfl

@[simp] theorem dereference_vfe_record (s : State) (h : BitVec 16) : (s.dereference h).vfe.record = s.vfe.record := rfl
@[simp] theorem dereference_vfe_loaded (s : State) (h : BitVec 16) : (s.dereference h).vfe.loaded = s.vfe.loaded := rfl
@[simp] theorem dereference_vfe_pool (s : State) (h : BitVec 16) : (s.dereference h).vfe.pool = s.vfe.pool.dereference h := rfl
@[simp] theorem dereference_vfe_work (s : State) (h : BitVec 16) : (s.dereference h).vfe.work = s.vfe.work := rfl
@[simp] theorem dereference_vfe_lastPrt (s : State) (h : BitVec 16) : (s.dereference h).vfe.lastPrt = s.vfe.lastPrt := rfl
@[simp] theorem dereference_vfe_primSinceFlush (s : State) (h : BitVec 16) : (s.dereference h).vfe.primSinceFlush = s.vfe.primSinceFlush := rfl
@[simp] theorem dereference_vfe_primSinceStateFlush (s : State) (h : BitVec 16) : (s.dereference h).vfe.primSinceStateFlush = s.vfe.primSinceStateFlush := rfl

@[simp] theorem setWork_vfe_record (s : State) (w : Option VfeWork) : (s.setWork w).vfe.record = s.vfe.record := rfl
@[simp] theorem setWork_vfe_loaded (s : State) (w : Option VfeWork) : (s.setWork w).vfe.loaded = s.vfe.loaded := rfl
@[simp] theorem setWork_vfe_pool (s : State) (w : Option VfeWork) : (s.setWork w).vfe.pool = s.vfe.pool := rfl
@[simp] theorem setWork_vfe_work (s : State) (w : Option VfeWork) : (s.setWork w).vfe.work = w := rfl
@[simp] theorem setWork_vfe_lastPrt (s : State) (w : Option VfeWork) : (s.setWork w).vfe.lastPrt = s.vfe.lastPrt := rfl
@[simp] theorem setWork_vfe_primSinceFlush (s : State) (w : Option VfeWork) : (s.setWork w).vfe.primSinceFlush = s.vfe.primSinceFlush := rfl
@[simp] theorem setWork_vfe_primSinceStateFlush (s : State) (w : Option VfeWork) : (s.setWork w).vfe.primSinceStateFlush = s.vfe.primSinceStateFlush := rfl

@[simp] theorem enqueueRoot_ts_rootQ (s : State) (r : RootReq) : (s.enqueueRoot r).ts.rootQ = s.ts.rootQ ++ [r] := rfl
@[simp] theorem enqueueRoot_ts_aside (s : State) (r : RootReq) : (s.enqueueRoot r).ts.aside = s.ts.aside := rfl
@[simp] theorem enqueueRoot_ts_childQ (s : State) (r : RootReq) : (s.enqueueRoot r).ts.childQ = s.ts.childQ := rfl
@[simp] theorem enqueueRoot_ts_rootCount (s : State) (r : RootReq) : (s.enqueueRoot r).ts.rootCount = s.ts.rootCount := rfl
@[simp] theorem enqueueRoot_ts_fftids (s : State) (r : RootReq) : (s.enqueueRoot r).ts.fftids = s.ts.fftids := rfl
@[simp] theorem enqueueRoot_ts_scratch (s : State) (r : RootReq) : (s.enqueueRoot r).ts.scratch = s.ts.scratch := rfl
@[simp] theorem enqueueRoot_ts_outstanding (s : State) (r : RootReq) : (s.enqueueRoot r).ts.outstanding = s.ts.outstanding := rfl
@[simp] theorem enqueueRoot_ts_tracking (s : State) (r : RootReq) : (s.enqueueRoot r).ts.tracking = s.ts.tracking := rfl
@[simp] theorem enqueueRoot_ts_fence (s : State) (r : RootReq) : (s.enqueueRoot r).ts.fence = s.ts.fence := rfl
@[simp] theorem enqueueRoot_ts_preemptPending (s : State) (r : RootReq) : (s.enqueueRoot r).ts.preemptPending = s.ts.preemptPending := rfl
@[simp] theorem enqueueRoot_ts_preemptSent (s : State) (r : RootReq) : (s.enqueueRoot r).ts.preemptSent = s.ts.preemptSent := rfl

@[simp] theorem writePayload_vfe_record (s : State) (p : List Reg) : (s.writePayload p).vfe.record = s.vfe.record := rfl
@[simp] theorem writePayload_vfe_loaded (s : State) (p : List Reg) : (s.writePayload p).vfe.loaded = s.vfe.loaded := rfl
@[simp] theorem writePayload_vfe_pool (s : State) (p : List Reg) : (s.writePayload p).vfe.pool = s.vfe.pool.take := rfl
@[simp] theorem writePayload_vfe_work (s : State) (p : List Reg) : (s.writePayload p).vfe.work = s.vfe.work := rfl
@[simp] theorem writePayload_vfe_lastPrt (s : State) (p : List Reg) : (s.writePayload p).vfe.lastPrt = s.vfe.lastPrt := rfl
@[simp] theorem writePayload_vfe_primSinceFlush (s : State) (p : List Reg) : (s.writePayload p).vfe.primSinceFlush = s.vfe.primSinceFlush := rfl
@[simp] theorem writePayload_vfe_primSinceStateFlush (s : State) (p : List Reg) : (s.writePayload p).vfe.primSinceStateFlush = s.vfe.primSinceStateFlush := rfl

@[simp] theorem popChildQ_ts_rootQ (s : State) : (s.popChildQ).ts.rootQ = s.ts.rootQ := rfl
@[simp] theorem popChildQ_ts_aside (s : State) : (s.popChildQ).ts.aside = s.ts.aside := rfl
@[simp] theorem popChildQ_ts_childQ (s : State) : (s.popChildQ).ts.childQ = s.ts.childQ.tail := rfl
@[simp] theorem popChildQ_ts_rootCount (s : State) : (s.popChildQ).ts.rootCount = s.ts.rootCount := rfl
@[simp] theorem popChildQ_ts_fftids (s : State) : (s.popChildQ).ts.fftids = s.ts.fftids := rfl
@[simp] theorem popChildQ_ts_scratch (s : State) : (s.popChildQ).ts.scratch = s.ts.scratch := rfl
@[simp] theorem popChildQ_ts_outstanding (s : State) : (s.popChildQ).ts.outstanding = s.ts.outstanding := rfl
@[simp] theorem popChildQ_ts_tracking (s : State) : (s.popChildQ).ts.tracking = s.ts.tracking := rfl
@[simp] theorem popChildQ_ts_fence (s : State) : (s.popChildQ).ts.fence = s.ts.fence := rfl
@[simp] theorem popChildQ_ts_preemptPending (s : State) : (s.popChildQ).ts.preemptPending = s.ts.preemptPending := rfl
@[simp] theorem popChildQ_ts_preemptSent (s : State) : (s.popChildQ).ts.preemptSent = s.ts.preemptSent := rfl

@[simp] theorem popRootQ_ts_rootQ (s : State) : (s.popRootQ).ts.rootQ = s.ts.rootQ.tail := rfl
@[simp] theorem popRootQ_ts_aside (s : State) : (s.popRootQ).ts.aside = s.ts.aside := rfl
@[simp] theorem popRootQ_ts_childQ (s : State) : (s.popRootQ).ts.childQ = s.ts.childQ := rfl
@[simp] theorem popRootQ_ts_rootCount (s : State) : (s.popRootQ).ts.rootCount = s.ts.rootCount := rfl
@[simp] theorem popRootQ_ts_fftids (s : State) : (s.popRootQ).ts.fftids = s.ts.fftids := rfl
@[simp] theorem popRootQ_ts_scratch (s : State) : (s.popRootQ).ts.scratch = s.ts.scratch := rfl
@[simp] theorem popRootQ_ts_outstanding (s : State) : (s.popRootQ).ts.outstanding = s.ts.outstanding := rfl
@[simp] theorem popRootQ_ts_tracking (s : State) : (s.popRootQ).ts.tracking = s.ts.tracking := rfl
@[simp] theorem popRootQ_ts_fence (s : State) : (s.popRootQ).ts.fence = s.ts.fence := rfl
@[simp] theorem popRootQ_ts_preemptPending (s : State) : (s.popRootQ).ts.preemptPending = s.ts.preemptPending := rfl
@[simp] theorem popRootQ_ts_preemptSent (s : State) : (s.popRootQ).ts.preemptSent = s.ts.preemptSent := rfl

@[simp] theorem popBoth_ts_rootQ (s : State) : (s.popBoth).ts.rootQ = s.ts.rootQ.tail := rfl
@[simp] theorem popBoth_ts_aside (s : State) : (s.popBoth).ts.aside = s.ts.aside := rfl
@[simp] theorem popBoth_ts_childQ (s : State) : (s.popBoth).ts.childQ = s.ts.childQ.tail := rfl
@[simp] theorem popBoth_ts_rootCount (s : State) : (s.popBoth).ts.rootCount = s.ts.rootCount := rfl
@[simp] theorem popBoth_ts_fftids (s : State) : (s.popBoth).ts.fftids = s.ts.fftids := rfl
@[simp] theorem popBoth_ts_scratch (s : State) : (s.popBoth).ts.scratch = s.ts.scratch := rfl
@[simp] theorem popBoth_ts_outstanding (s : State) : (s.popBoth).ts.outstanding = s.ts.outstanding := rfl
@[simp] theorem popBoth_ts_tracking (s : State) : (s.popBoth).ts.tracking = s.ts.tracking := rfl
@[simp] theorem popBoth_ts_fence (s : State) : (s.popBoth).ts.fence = s.ts.fence := rfl
@[simp] theorem popBoth_ts_preemptPending (s : State) : (s.popBoth).ts.preemptPending = s.ts.preemptPending := rfl
@[simp] theorem popBoth_ts_preemptSent (s : State) : (s.popBoth).ts.preemptSent = s.ts.preemptSent := rfl

theorem writePayload_rob (s : State) (p : List Reg) :
    (s.writePayload p).rob = s.rob.writeRun s.params.robRegisters (urbEntryBase s.vfe.record s.vfe.pool.headHandle) p := rfl

/-! ### VFE's work: what going on with it leaves alone -/

@[simp] theorem offerRoot_cs (g : Generation) (r : RootReq) (s : State) : (offerRoot g r s).cs = s.cs := by
  unfold offerRoot; split <;> rfl

@[simp] theorem offerRoot_rob (g : Generation) (r : RootReq) (s : State) : (offerRoot g r s).rob = s.rob := by
  unfold offerRoot; split <;> rfl

@[simp] theorem offerRoot_stale (g : Generation) (r : RootReq) (s : State) : (offerRoot g r s).stale = s.stale := by
  unfold offerRoot; split <;> rfl

@[simp] theorem offerRoot_td (g : Generation) (r : RootReq) (s : State) : (offerRoot g r s).td = s.td := by
  unfold offerRoot; split <;> rfl

@[simp] theorem offerRoot_gateway (g : Generation) (r : RootReq) (s : State) : (offerRoot g r s).gateway = s.gateway := by
  unfold offerRoot; split <;> rfl

@[simp] theorem offerRoot_mem (g : Generation) (r : RootReq) (s : State) : (offerRoot g r s).mem = s.mem := by
  unfold offerRoot; split <;> rfl

@[simp] theorem offerRoot_agenda (g : Generation) (r : RootReq) (s : State) : (offerRoot g r s).agenda = s.agenda := by
  unfold offerRoot; split <;> rfl

@[simp] theorem offerRoot_freeCount (g : Generation) (r : RootReq) (s : State) : (offerRoot g r s).freeCount = s.freeCount := by
  unfold offerRoot; split <;> rfl

@[simp] theorem offerRoot_params (g : Generation) (r : RootReq) (s : State) : (offerRoot g r s).params = s.params := by
  unfold offerRoot; split <;> rfl

@[simp] theorem generateStep_cs (g : Generation) (s : State) : (generateStep g s).cs = s.cs := by
  unfold generateStep
  split
  · simp
  · split
    · simp
    · split <;> simp

@[simp] theorem startGeneration_cs (c : RootControl) (p : List Reg) (t : List WalkPos) (s : State) :
    (startGeneration c p t s).cs = s.cs := by
  simp [startGeneration]

@[simp] theorem generateStep_stale (g : Generation) (s : State) : (generateStep g s).stale = s.stale := by
  unfold generateStep
  split
  · simp
  · split
    · simp
    · split <;> simp

@[simp] theorem startGeneration_stale (c : RootControl) (p : List Reg) (t : List WalkPos) (s : State) :
    (startGeneration c p t s).stale = s.stale := by
  simp [startGeneration]

@[simp] theorem generateStep_td (g : Generation) (s : State) : (generateStep g s).td = s.td := by
  unfold generateStep
  split
  · simp
  · split
    · simp
    · split <;> simp

@[simp] theorem startGeneration_td (c : RootControl) (p : List Reg) (t : List WalkPos) (s : State) :
    (startGeneration c p t s).td = s.td := by
  simp [startGeneration]

@[simp] theorem generateStep_gateway (g : Generation) (s : State) : (generateStep g s).gateway = s.gateway := by
  unfold generateStep
  split
  · simp
  · split
    · simp
    · split <;> simp

@[simp] theorem startGeneration_gateway (c : RootControl) (p : List Reg) (t : List WalkPos) (s : State) :
    (startGeneration c p t s).gateway = s.gateway := by
  simp [startGeneration]

@[simp] theorem generateStep_mem (g : Generation) (s : State) : (generateStep g s).mem = s.mem := by
  unfold generateStep
  split
  · simp
  · split
    · simp
    · split <;> simp

@[simp] theorem startGeneration_mem (c : RootControl) (p : List Reg) (t : List WalkPos) (s : State) :
    (startGeneration c p t s).mem = s.mem := by
  simp [startGeneration]

@[simp] theorem generateStep_agenda (g : Generation) (s : State) : (generateStep g s).agenda = s.agenda := by
  unfold generateStep
  split
  · simp
  · split
    · simp
    · split <;> simp

@[simp] theorem startGeneration_agenda (c : RootControl) (p : List Reg) (t : List WalkPos) (s : State) :
    (startGeneration c p t s).agenda = s.agenda := by
  simp [startGeneration]

@[simp] theorem generateStep_freeCount (g : Generation) (s : State) : (generateStep g s).freeCount = s.freeCount := by
  unfold generateStep
  split
  · simp
  · split
    · simp
    · split <;> simp

@[simp] theorem generateStep_params (g : Generation) (s : State) : (generateStep g s).params = s.params := by
  unfold generateStep
  split
  · simp
  · split
    · simp
    · split <;> simp

@[simp] theorem startGeneration_freeCount (c : RootControl) (p : List Reg) (t : List WalkPos) (s : State) :
    (startGeneration c p t s).freeCount = s.freeCount := by
  simp [startGeneration]

@[simp] theorem startGeneration_params (c : RootControl) (p : List Reg) (t : List WalkPos) (s : State) :
    (startGeneration c p t s).params = s.params := by
  simp [startGeneration]

@[simp] theorem stateFlushStep_cs (w : BitVec 8) (m : BitVec 16) (s : State) :
    (stateFlushStep w m s).cs = s.cs := by
  unfold stateFlushStep; split <;> rfl

@[simp] theorem stateFlushStep_rob (w : BitVec 8) (m : BitVec 16) (s : State) :
    (stateFlushStep w m s).rob = s.rob := by
  unfold stateFlushStep; split <;> rfl

@[simp] theorem stateFlushStep_stale (w : BitVec 8) (m : BitVec 16) (s : State) :
    (stateFlushStep w m s).stale = s.stale := by
  unfold stateFlushStep; split <;> rfl

@[simp] theorem stateFlushStep_ts (w : BitVec 8) (m : BitVec 16) (s : State) :
    (stateFlushStep w m s).ts = s.ts := by
  unfold stateFlushStep; split <;> rfl

@[simp] theorem stateFlushStep_td (w : BitVec 8) (m : BitVec 16) (s : State) :
    (stateFlushStep w m s).td = s.td := by
  unfold stateFlushStep; split <;> rfl

@[simp] theorem stateFlushStep_gateway (w : BitVec 8) (m : BitVec 16) (s : State) :
    (stateFlushStep w m s).gateway = s.gateway := by
  unfold stateFlushStep; split <;> rfl

@[simp] theorem stateFlushStep_mem (w : BitVec 8) (m : BitVec 16) (s : State) :
    (stateFlushStep w m s).mem = s.mem := by
  unfold stateFlushStep; split <;> rfl

@[simp] theorem stateFlushStep_agenda (w : BitVec 8) (m : BitVec 16) (s : State) :
    (stateFlushStep w m s).agenda = s.agenda := by
  unfold stateFlushStep; split <;> rfl

@[simp] theorem stateFlushStep_freeCount (w : BitVec 8) (m : BitVec 16) (s : State) :
    (stateFlushStep w m s).freeCount = s.freeCount := by
  unfold stateFlushStep; split <;> rfl

@[simp] theorem stateFlushStep_params (w : BitVec 8) (m : BitVec 16) (s : State) :
    (stateFlushStep w m s).params = s.params := by
  unfold stateFlushStep; split <;> rfl

@[simp] theorem continueWork_cs (w : VfeWork) (s : State) : (continueWork w s).cs = s.cs := by
  cases w <;> simp [continueWork]

@[simp] theorem continueWork_stale (w : VfeWork) (s : State) : (continueWork w s).stale = s.stale := by
  cases w <;> simp [continueWork]

@[simp] theorem continueWork_td (w : VfeWork) (s : State) : (continueWork w s).td = s.td := by
  cases w <;> simp [continueWork]

@[simp] theorem continueWork_gateway (w : VfeWork) (s : State) : (continueWork w s).gateway = s.gateway := by
  cases w <;> simp [continueWork]

@[simp] theorem continueWork_mem (w : VfeWork) (s : State) : (continueWork w s).mem = s.mem := by
  cases w <;> simp [continueWork]

@[simp] theorem continueWork_agenda (w : VfeWork) (s : State) : (continueWork w s).agenda = s.agenda := by
  cases w <;> simp [continueWork]

@[simp] theorem continueWork_freeCount (w : VfeWork) (s : State) : (continueWork w s).freeCount = s.freeCount := by
  cases w <;> simp [continueWork]

@[simp] theorem continueWork_params (w : VfeWork) (s : State) : (continueWork w s).params = s.params := by
  cases w <;> simp [continueWork]

/-! ### The end of a root thread -/

@[simp] theorem endRoot_cs (s : State) (e : Bool) (r : Outstanding) : (s.endRoot e r).cs = s.cs := by
  unfold State.endRoot; split <;> rfl

@[simp] theorem endRoot_vfe (s : State) (e : Bool) (r : Outstanding) : (s.endRoot e r).vfe = s.vfe := by
  unfold State.endRoot; split <;> rfl

@[simp] theorem endRoot_rob (s : State) (e : Bool) (r : Outstanding) : (s.endRoot e r).rob = s.rob := by
  unfold State.endRoot; split <;> rfl

@[simp] theorem endRoot_stale (s : State) (e : Bool) (r : Outstanding) : (s.endRoot e r).stale = s.stale := by
  unfold State.endRoot; split <;> rfl

@[simp] theorem endRoot_td (s : State) (e : Bool) (r : Outstanding) : (s.endRoot e r).td = s.td := by
  unfold State.endRoot; split <;> rfl

@[simp] theorem endRoot_gateway (s : State) (e : Bool) (r : Outstanding) : (s.endRoot e r).gateway = s.gateway := by
  unfold State.endRoot; split <;> rfl

@[simp] theorem endRoot_mem (s : State) (e : Bool) (r : Outstanding) : (s.endRoot e r).mem = s.mem := by
  unfold State.endRoot; split <;> rfl

@[simp] theorem endRoot_agenda (s : State) (e : Bool) (r : Outstanding) : (s.endRoot e r).agenda = s.agenda := by
  unfold State.endRoot; split <;> rfl

@[simp] theorem endRoot_freeCount (s : State) (e : Bool) (r : Outstanding) : (s.endRoot e r).freeCount = s.freeCount := by
  unfold State.endRoot; split <;> rfl

@[simp] theorem endRoot_params (s : State) (e : Bool) (r : Outstanding) : (s.endRoot e r).params = s.params := by
  unfold State.endRoot; split <;> rfl

end Sys2Proof.Laws
end

