-- ==== Sys2Proof/Laws/Ops.lean ====
section
/-! SUPPORT. Laws/Ops.lean: the small laws of the shared operations: the sparse stores and their canonical form, and for
each operation that answers a result, once, everything it can answer. -/

namespace Sys2Proof.Laws

open Sys2Proof Sys2Proof.Machine

/-! ### Registers -/

/-- DWord `d` of a register made of DWords. -/
theorem dword_ofDWords (f : Nat → DWord) {d : Nat} (hd : d < 8) : (Reg.ofDWords f).dword d = f d := by
  have : d = 0 ∨ d = 1 ∨ d = 2 ∨ d = 3 ∨ d = 4 ∨ d = 5 ∨ d = 6 ∨ d = 7 := by omega
  apply BitVec.eq_of_getLsbD_eq
  intro i hi
  unfold Reg.dword Reg.ofDWords
  rcases this with rfl | rfl | rfl | rfl | rfl | rfl | rfl | rfl <;>
    simp (disch := omega) only [BitVec.getLsbD_extractLsb', BitVec.getLsbD_append, if_pos, if_neg, hi, decide_true,
      Bool.true_and] <;>
    exact congrArg _ (by omega)

/-- A descriptor's Barrier.Offset is one the arguments of the model list for it, or the default 0. -/
theorem barrierOffset_cases (p : Config.Params) (desc : Reg) :
    (desc, barrierOffset p desc) ∈ p.barrierOffsets
      ∨ (∀ e ∈ p.barrierOffsets, e.1 ≠ desc) ∧ barrierOffset p desc = 0 := by
  unfold barrierOffset
  split
  case h_1 e h =>
    have hd : e.1 = desc := by simpa using List.find?_some h
    exact .inl (hd ▸ List.mem_of_find?_eq_some h)
  case h_2 h => exact .inr ⟨by simpa using h, rfl⟩

@[simp] theorem barrierOffset_defaults (desc : Reg) : barrierOffset Config.defaults desc = 0 := rfl

/-! ### Sparse stores -/

section Sparse

variable {n : Nat}

theorem wfFrom_mono {lo lo' : Nat} (h : lo' ≤ lo) : ∀ {m : List (Nat × BitVec n)},
    Sparse.wfFrom lo m = true → Sparse.wfFrom lo' m = true
  | [], _ => rfl
  | (k, v) :: rest, hm => by
    simp only [Sparse.wfFrom, Bool.and_eq_true, decide_eq_true_eq] at hm ⊢
    exact ⟨⟨h.trans hm.1.1, hm.1.2⟩, hm.2⟩

theorem read_of_lt {a lo : Nat} (h : a < lo) : ∀ {m : List (Nat × BitVec n)},
    Sparse.wfFrom lo m = true → Sparse.read m a = 0
  | [], _ => rfl
  | (k, v) :: rest, hm => by
    simp only [Sparse.wfFrom, Bool.and_eq_true, decide_eq_true_eq] at hm
    have hk : ¬ k = a := by omega
    simp only [Sparse.read, hk, if_false]
    exact read_of_lt (by omega) hm.2

theorem wfFrom_consNonzero {lo a : Nat} {v : BitVec n} {m : List (Nat × BitVec n)} (hl : lo ≤ a)
    (hm : Sparse.wfFrom (a + 1) m = true) : Sparse.wfFrom lo (Sparse.consNonzero a v m) = true := by
  unfold Sparse.consNonzero
  split
  · exact wfFrom_mono (by omega) hm
  · rename_i hv
    simpa [Sparse.wfFrom, hl, hm] using hv

theorem wfFrom_write {lo a : Nat} (v : BitVec n) (hl : lo ≤ a) : ∀ {m : List (Nat × BitVec n)},
    Sparse.wfFrom lo m = true → Sparse.wfFrom lo (Sparse.write m a v) = true
  | [], _ => wfFrom_consNonzero hl rfl
  | (k, w) :: rest, hm => by
    have hm' := hm
    simp only [Sparse.wfFrom, Bool.and_eq_true, decide_eq_true_eq] at hm
    unfold Sparse.write
    split
    · rename_i hlt
      refine wfFrom_consNonzero hl ?_
      simp only [Sparse.wfFrom, Bool.and_eq_true, decide_eq_true_eq]
      exact ⟨⟨hlt, hm.1.2⟩, hm.2⟩
    · split
      · rename_i _ heq
        subst heq
        exact wfFrom_consNonzero hl hm.2
      · simp only [Sparse.wfFrom, Bool.and_eq_true, decide_eq_true_eq]
        exact ⟨hm.1, wfFrom_write v (by omega) hm.2⟩

/-- A write keeps the canonical form. -/
theorem wf_write {m : List (Nat × BitVec n)} (a : Nat) (v : BitVec n) (h : Sparse.wf m = true) :
    Sparse.wf (Sparse.write m a v) = true := wfFrom_write v (Nat.zero_le a) h

/-- A run of writes keeps the canonical form. -/
theorem wf_writeRun (vs : List (BitVec n)) : ∀ {m : List (Nat × BitVec n)} (a : Nat),
    Sparse.wf m = true → Sparse.wf (Sparse.writeRun m a vs) = true := by
  induction vs with
  | nil => intro m a h; exact h
  | cons v vs ih => intro m a h; exact ih (a + 1) (wf_write a v h)

theorem read_consNonzero {m : List (Nat × BitVec n)} (a : Nat) (v : BitVec n) (b : Nat)
    (hm : Sparse.wfFrom (a + 1) m = true) :
    Sparse.read (Sparse.consNonzero a v m) b = if b = a then v else Sparse.read m b := by
  unfold Sparse.consNonzero
  by_cases hv : v = 0
  · simp only [hv, if_true]
    split
    · rename_i hb; subst hb; exact read_of_lt (Nat.lt_succ_self _) hm
    · rfl
  · simp only [hv, if_false, Sparse.read]
    by_cases hab : a = b
    · simp [hab]
    · simp [hab, Ne.symm hab]

theorem read_write_from {lo : Nat} (a : Nat) (v : BitVec n) (b : Nat) : ∀ {m : List (Nat × BitVec n)},
    Sparse.wfFrom lo m = true →
      Sparse.read (Sparse.write m a v) b = if b = a then v else Sparse.read m b
  | [], _ => read_consNonzero a v b rfl
  | (k, w) :: rest, hm => by
    simp only [Sparse.wfFrom, Bool.and_eq_true, decide_eq_true_eq] at hm
    unfold Sparse.write
    split
    · rename_i hlt
      refine read_consNonzero a v b ?_
      simp only [Sparse.wfFrom, Bool.and_eq_true, decide_eq_true_eq]
      exact ⟨⟨hlt, hm.1.2⟩, hm.2⟩
    · split
      · rename_i _ heq
        subst heq
        rw [read_consNonzero a v b hm.2]
        by_cases hb : b = a
        · simp [hb]
        · simp [Sparse.read, hb, Ne.symm hb]
      · rename_i hlt hne
        simp only [Sparse.read]
        by_cases hb : k = b
        · have : ¬ b = a := by omega
          simp [hb, this]
        · simp only [hb, if_false]
          exact read_write_from a v b hm.2

/-- Reading after a write: the written number gives the value, every other number what it gave. -/
theorem read_write {m : List (Nat × BitVec n)} (h : Sparse.wf m = true) (a : Nat) (v : BitVec n) (b : Nat) :
    Sparse.read (Sparse.write m a v) b = if b = a then v else Sparse.read m b := read_write_from a v b h

/-- A run of writes leaves the numbers outside the run alone. -/
theorem read_writeRun_outside (vs : List (BitVec n)) : ∀ {m : List (Nat × BitVec n)} (a b : Nat),
    Sparse.wf m = true → (b < a ∨ a + vs.length ≤ b) → Sparse.read (Sparse.writeRun m a vs) b = Sparse.read m b := by
  induction vs with
  | nil => intro m a b _ _; rfl
  | cons v vs ih =>
    intro m a b h hb
    simp only [List.length_cons] at hb
    simp only [Sparse.writeRun]
    rw [ih (a + 1) b (wf_write a v h) (by omega), read_write h]
    have : ¬ b = a := by omega
    simp [this]

/-- A run of writes puts each value in its place. -/
theorem read_writeRun_inside (vs : List (BitVec n)) : ∀ {m : List (Nat × BitVec n)} (a i : Nat),
    Sparse.wf m = true → i < vs.length → Sparse.read (Sparse.writeRun m a vs) (a + i) = vs.getD i 0 := by
  induction vs with
  | nil => intro m a i _ hi; simp at hi
  | cons v vs ih =>
    intro m a i h hi
    simp only [Sparse.writeRun]
    match i with
    | 0 =>
      rw [read_writeRun_outside vs (a + 1) (a + 0) (wf_write a v h) (by omega), read_write h]
      simp
    | i + 1 =>
      have := ih (m := Sparse.write m a v) (a + 1) i (wf_write a v h) (by simpa using hi)
      rw [show a + (i + 1) = a + 1 + i by omega, this]
      simp

end Sparse

/-! ### The ROB -/

/-- A ROB write keeps the canonical form. -/
theorem rob_write_wf {rob : Rob} (size r : Nat) (v : Reg) (h : Sparse.wf rob.regs = true) :
    Sparse.wf (rob.write size r v).regs = true := by
  unfold Rob.write
  split
  · exact wf_write r v h
  · exact h

/-- A run of ROB writes keeps the canonical form. -/
theorem rob_writeRun_wf (size : Nat) (vs : List Reg) : ∀ {rob : Rob} (r : Nat),
    Sparse.wf rob.regs = true → Sparse.wf (rob.writeRun size r vs).regs = true := by
  induction vs with
  | nil => intro rob r h; exact h
  | cons v vs ih => intro rob r h; exact ih (r + 1) (rob_write_wf size r v h)

@[simp] theorem rob_write_idtCount (rob : Rob) (size r : Nat) (v : Reg) : (rob.write size r v).idtCount = rob.idtCount := by
  unfold Rob.write; split <;> rfl

@[simp] theorem rob_write_curbeLength (rob : Rob) (size r : Nat) (v : Reg) :
    (rob.write size r v).curbeLength = rob.curbeLength := by
  unfold Rob.write; split <;> rfl

@[simp] theorem rob_write_curbeDefined (rob : Rob) (size r : Nat) (v : Reg) :
    (rob.write size r v).curbeDefined = rob.curbeDefined := by
  unfold Rob.write; split <;> rfl

@[simp] theorem rob_writeRun_idtCount (size : Nat) (vs : List Reg) : ∀ (rob : Rob) (r : Nat),
    (rob.writeRun size r vs).idtCount = rob.idtCount := by
  induction vs with
  | nil => intro rob r; rfl
  | cons v vs ih => intro rob r; simp [Rob.writeRun, ih]

@[simp] theorem rob_writeRun_curbeLength (size : Nat) (vs : List Reg) : ∀ (rob : Rob) (r : Nat),
    (rob.writeRun size r vs).curbeLength = rob.curbeLength := by
  induction vs with
  | nil => intro rob r; rfl
  | cons v vs ih => intro rob r; simp [Rob.writeRun, ih]

@[simp] theorem rob_writeRun_curbeDefined (size : Nat) (vs : List Reg) : ∀ (rob : Rob) (r : Nat),
    (rob.writeRun size r vs).curbeDefined = rob.curbeDefined := by
  induction vs with
  | nil => intro rob r; rfl
  | cons v vs ih => intro rob r; simp [Rob.writeRun, ih]

/-- Reading a ROB register after a write. -/
theorem rob_read_write {rob : Rob} (h : Sparse.wf rob.regs = true) {size r : Nat} (hr : r < size) (v : Reg)
    (b : Nat) : (rob.write size r v).read b = if b = r then v else rob.read b := by
  unfold Rob.write Rob.read
  simp only [hr, if_true]
  exact read_write h r v b

/-- A run of ROB writes that ends inside the ROB is one run of writes of its store. -/
theorem rob_writeRun_regs {size : Nat} (vs : List Reg) : ∀ {rob : Rob} {r : Nat}, r + vs.length ≤ size →
    (rob.writeRun size r vs).regs = Sparse.writeRun rob.regs r vs := by
  induction vs with
  | nil => intro rob r _; rfl
  | cons v vs ih =>
    intro rob r h
    simp only [List.length_cons] at h
    simp only [Rob.writeRun, Sparse.writeRun]
    rw [ih (by omega)]
    have : r < size := by omega
    simp [Rob.write, this]

/-! ### `require` -/

/-- A `require` line answers a next state exactly when it holds and what follows does. -/
theorem require_next {c : Bool} {r : Refusal} {k : Result} {t : State} :
    require c r k = .next t ↔ c = true ∧ k = .next t := by
  unfold require
  cases c <;> simp

/-- A `require` line that holds is passed. -/
theorem require_true (r : Refusal) (k : Result) : require true r k = k := rfl

/-- A `require` line that does not hold refuses. -/
theorem require_false (r : Refusal) (k : Result) : require false r k = .refused r := rfl

/-- The URB registers a message names, as premises. -/
theorem requireUrbRegs_next {s : State} {m : MsgFields} {count : Nat} {k : Result} {t : State} :
    requireUrbRegs s m count k = .next t ↔
      m.offset.toNat + count ≤ s.vfe.record.urbEntryAllocationSize.toNat ∧ k = .next t := by
  simp [requireUrbRegs, require_next]

/-- A handle of the pool names the registers of its entry. -/
theorem namedUrbRegs_of_has {v : Vfe} {h : BitVec 16} (hh : v.pool.has h = true) (rob : Rob) (o n f : Nat) :
    namedUrbRegs v rob h o n f = urbRegs v.record rob h o n := by
  simp [namedUrbRegs, hh]

/-- Whatever handle is named, as many registers are read. -/
@[simp] theorem namedUrbRegs_length (v : Vfe) (rob : Rob) (h : BitVec 16) (o n f : Nat) :
    (namedUrbRegs v rob h o n f).length = n := by
  unfold namedUrbRegs
  split <;> simp [urbRegs]

/-! ### Everything the shared operations of TS can answer -/

/-- A dispatch that is answered starts the root thread. -/
theorem dispatchRoot_next {s t : State} {r : RootReq} {x : Option UrbRef} (h : dispatchRoot s r x = .next t) :
    constantsInRange s.params (descriptorOf (rootDescriptor s r)) = true
      ∧ (rootImage s r x).length ≤ s.params.grfRegisters ∧ t = startRoot s r x := by
  simp only [dispatchRoot, require_next, decide_eq_true_eq, Host.Outcome.next.injEq] at h
  exact ⟨h.1, h.2.1, h.2.2.symm⟩

/-- A request that has left RootQ is set aside or its thread started. -/
theorem releaseRoot_next {s t : State} {r : RootReq} {x : Option UrbRef} (h : releaseRoot s r x = .next t) :
    (scoreboardSetsAside s r = true ∧ t = { s with ts := { s.ts with aside := s.ts.aside ++ [⟨r, x⟩] } })
      ∨ (scoreboardSetsAside s r = false ∧ t = startRoot s r x) := by
  unfold releaseRoot at h
  split at h
  · rename_i ha; left; exact ⟨ha, by simpa using h.symm⟩
  · rename_i ha; right; exact ⟨by simpa using ha, (dispatchRoot_next h).2.2⟩

/-- A child dispatch that is answered starts the child. -/
theorem dispatchChild_next {s t : State} {m : MsgFields} (h : dispatchChild m s = .next t) :
    m.interfaceDescriptorOffset.toNat < s.rob.idtCount ∧ t = startChild s m := by
  simp only [dispatchChild, require_next, requireUrbRegs_next, decide_eq_true_eq, Host.Outcome.next.injEq] at h
  exact ⟨h.2.1, h.2.2.2.2.2.symm⟩

/-- A spawn-child message that is answered starts the child. -/
theorem spawnChild_next {s t : State} {m : MsgFields} (h : spawnChild m s = .next t) :
    m.eot = false ∧ m.interfaceDescriptorOffset.toNat < s.rob.idtCount ∧ t = startChild s m := by
  simp only [spawnChild, require_next, Bool.not_eq_true'] at h
  exact ⟨h.1, dispatchChild_next h.2⟩

/-- The waiting synchronized root is the head of RootQ, is a synchronized root and may go. -/
theorem waitingSynchronizedRoot_some {s : State} {r : RootReq} (h : waitingSynchronizedRoot s = some r) :
    s.ts.rootQ.head? = some r ∧ r.control.threadSync = true ∧ rootEligible s r = true := by
  unfold waitingSynchronizedRoot at h
  split at h
  · simp at h
  · rename_i q _ hq
    split at h
    · rename_i hc
      simp only [Option.some.injEq] at h
      subst h
      simp only [Bool.and_eq_true] at hc
      exact ⟨by simp [hq], hc.1, hc.2⟩
    · simp at h

/-- A spawn-root message that is answered holds ChildQ, or both queue heads go and the root is released. -/
theorem spawnRoot_next {s t : State} {m : MsgFields} (h : spawnRoot m s = .next t) :
    (waitingSynchronizedRoot s = none ∧ t = s)
      ∨ ∃ r, waitingSynchronizedRoot s = some r ∧ releaseRoot s.popBoth r (some (urbRefOf m)) = .next t := by
  simp only [spawnRoot, require_next] at h
  obtain ⟨-, h⟩ := h
  split at h
  · rename_i hw; exact .inl ⟨hw, by simpa using h.symm⟩
  · rename_i r hw; exact .inr ⟨r, hw, (requireUrbRegs_next.mp h).2⟩

/-- What a root's TS_DEREF_URB does when it is answered. -/
theorem derefUrbRoot_next {s t : State} {m : MsgFields} (h : derefUrbRoot m s = .next t) :
    ∃ o, outstandingOf s.ts m.fftid = some o
      ∧ t = ({ s.popChildQ with ts := s.popChildQ.ts.markDereferenced m.fftid }.dereference m.handle).endRoot m.eot o := by
  unfold derefUrbRoot at h
  split at h
  · simp at h
  · rename_i o ho
    simp only [require_next, Host.Outcome.next.injEq] at h
    exact ⟨o, ho, h.2.2.symm⟩

/-- What a root's TS_DEREF_NOURB does when it is answered. -/
theorem derefNourbRoot_next {s t : State} {m : MsgFields} (h : derefNourbRoot m s = .next t) :
    ∃ o, outstandingOf s.ts m.fftid = some o ∧ t = s.popChildQ.endRoot m.eot o := by
  unfold derefNourbRoot at h
  split at h
  · simp at h
  · rename_i o ho; exact ⟨o, ho, by simpa using h.symm⟩

/-- The record found under an FFTID is one of the outstanding ones and has that FFTID. -/
theorem outstandingOf_some {ts : Spawner} {f : BitVec 8} {o : Outstanding} (h : outstandingOf ts f = some o) :
    o ∈ ts.outstanding ∧ o.fftid = f := by
  unfold outstandingOf at h
  exact ⟨List.mem_of_find?_eq_some h, by simpa using List.find?_some h⟩

/-- A picked alternative is one of the alternatives. -/
theorem pick_mem {α : Type} {l : List α} (d : α) (n : Nat) (h : l ≠ []) : pick l d n ∈ l := by
  unfold pick
  split
  · exact absurd rfl h
  · simp
  · have hl : Config.choice n % l.length < l.length := Nat.mod_lt _ (List.length_pos_iff.mpr h)
    rw [List.getD_eq_getElem _ _ hl]
    exact List.getElem_mem hl

/-- The picked FFTID is not in use. -/
theorem pickedFftid_free {s : State} (h : rootRoom s = true) : pickedFftid s ∉ s.ts.fftids := by
  simp only [rootRoom, Bool.and_eq_true] at h
  have hne : freeFftids s.ts ≠ [] := by simpa using h.1.2
  have := pick_mem (0 : BitVec 8) s.freeCount hne
  simp only [freeFftids, List.mem_filter] at this
  simpa [pickedFftid, freeFftids] using this.2

/-- The picked scratch slot is not in use and is one of the record's. -/
theorem pickedSlot_free {s : State} (h : rootRoom s = true) :
    pickedSlot s ∉ s.ts.scratch.map Prod.fst ∧ pickedSlot s ≤ s.vfe.record.maximumNumberOfThreads.toNat := by
  simp only [rootRoom, Bool.and_eq_true] at h
  have hne : freeScratchSlots s.vfe.record s.ts ≠ [] := by simpa using h.2
  have := pick_mem 0 (s.freeCount + 1) hne
  simp only [freeScratchSlots, List.mem_filter, List.mem_range] at this
  refine ⟨?_, ?_⟩
  · simpa [pickedSlot, freeScratchSlots] using this.2
  · have h1 := this.1
    simp only [pickedSlot, freeScratchSlots]
    omega

/-! ### The residual data of a VC1 macroblock -/

/-- What `vc1ResidualData` answers is the residual data of the blocks that are present, and each intra-coded block has a
coefficient in it. -/
theorem vc1ResidualData_some {inlineData data : List DWord} {r : Macroblock.Residual}
    (h : Macroblock.vc1ResidualData inlineData data = some r) :
    Macroblock.residualData (Macroblock.vc1Division inlineData) (Macroblock.vc1Present inlineData) data = some r
      ∧ ∀ b : Macroblock.ResidualBlock,
          (Macroblock.vc1DWord0Of (dw inlineData 0)).blockIntra b.number = true →
          ∃ e ∈ r, e.1.1 = b ∧ e.2 ≠ [] := by
  obtain ⟨hr, hi⟩ := Option.filter_eq_some_iff.mp h
  refine ⟨hr, fun b hb => ?_⟩
  have hm : b ∈ Macroblock.blockSequence := by cases b <;> decide
  have := List.all_eq_true.mp hi b hm
  simpa [hb, Macroblock.hasCoefficient] using this

end Sys2Proof.Laws
end

