-- ==== Sys2Proof/Laws/Meanings.lean ====
section
/-! SUPPORT. Laws/Meanings.lean: what a meaning can do when it answers a next state, said once for all commands and once
for all messages, and which instructions the two decoders give. -/

namespace Sys2Proof.Laws

open Sys2Proof Sys2Proof.Machine

/-! ### Ranges -/

/-- The range check of MEDIA_VFE_STATE, in numbers. -/
theorem vfeRecordInRange_iff (p : Config.Params) (v : VfeRecord) : vfeRecordInRange p v = true ↔
    v.stackSize.toNat ≤ 11 ∧ v.perThreadScratchSpace.toNat ≤ 11 ∧ v.maximumNumberOfThreads.toNat ≤ p.threadSlots - 1
      ∧ v.numberOfUrbEntries.toNat ≤ 64 ∧ v.urbEntryAllocationSize.toNat ≤ p.robRegisters - 33
      ∧ v.curbeAllocationSize.toNat ≤ p.robRegisters - 33 := by
  simp only [vfeRecordInRange, Bool.and_eq_true, decide_eq_true_eq, and_assoc]
  exact Iff.rfl

/-- The budget check of MEDIA_VFE_STATE, in numbers. -/
theorem vfeRecordInBudget_iff (p : Config.Params) (v : VfeRecord) : vfeRecordInBudget p v = true ↔
    v.urbEntryAllocationSize.toNat * v.numberOfUrbEntries.toNat + v.curbeAllocationSize.toNat + 32
      < p.robRegisters := by
  simp only [vfeRecordInBudget, decide_eq_true_eq]
  exact Iff.rfl

/-- The constant registers of a descriptor lie in the ROB, in numbers. -/
theorem constantsInRange_iff (p : Config.Params) (d : InterfaceDescriptor) : constantsInRange p d = true ↔
    d.constantUrbReadLength = 0 ∨ d.constantUrbReadOffset.toNat + d.constantUrbReadLength.toNat
      ≤ p.robRegisters - 33 := by
  simp only [constantsInRange, Bool.or_eq_true, beq_iff_eq, decide_eq_true_eq]

/-- RootEligible, condition by condition. -/
theorem rootEligible_iff (s : State) (r : RootReq) : rootEligible s r = true ↔
    s.ts.rootCount < s.vfe.record.maximumNumberOfThreads.toNat + 1 ∧ s.ts.fence ≠ .rootQueue
      ∧ s.ts.preemptSent = false ∧ freeFftids s.ts ≠ [] ∧ freeScratchSlots s.vfe.record s.ts ≠ []
      ∧ (s.vfe.record.scoreboardType = false → dependenciesClear s.vfe.record s.ts.tracking r = true) := by
  cases ht : s.vfe.record.scoreboardType <;>
    simp [rootEligible, rootRoom, scoreboardHolds, ht, and_assoc]

/-! ### VFE's work -/

/-- One turn of a primitive command: at most one handle taken, one run of the ROB written, one request queued. -/
theorem generateStep_cases (g : Generation) (s : State) :
    ∃ w p rob q,
      generateStep g s
        = { s with vfe := { s.vfe with work := w, pool := p }, rob := rob, ts := { s.ts with rootQ := q } }
      ∧ (p = s.vfe.pool ∨ (p = s.vfe.pool.take ∧ s.vfe.pool.headFree = true))
      ∧ (rob = s.rob ∨ ∃ base, rob = s.rob.writeRun s.params.robRegisters base g.payload)
      ∧ (q = s.ts.rootQ ∨ (s.ts.rootQ.length < Config.rootQueueDepth ∧ ∃ r, q = s.ts.rootQ ++ [r])) := by
  unfold generateStep offerRoot
  split
  · split
    · rename_i h
      simp only [rootQHasRoom, decide_eq_true_eq] at h
      exact ⟨_, _, _, _, rfl, .inl rfl, .inl rfl, .inr ⟨h, _, rfl⟩⟩
    · exact ⟨_, _, _, _, rfl, .inl rfl, .inl rfl, .inl rfl⟩
  · split
    · exact ⟨_, _, _, _, rfl, .inl rfl, .inl rfl, .inl rfl⟩
    · split
      · rename_i hf
        split
        · rename_i h
          simp only [rootQHasRoom, decide_eq_true_eq] at h
          exact ⟨_, _, _, _, rfl, .inr ⟨rfl, hf⟩, .inr ⟨_, rfl⟩, .inr ⟨h, _, rfl⟩⟩
        · exact ⟨_, _, _, _, rfl, .inr ⟨rfl, hf⟩, .inr ⟨_, rfl⟩, .inl rfl⟩
      · exact ⟨_, _, _, _, rfl, .inl rfl, .inl rfl, .inl rfl⟩

/-- One turn of MEDIA_STATE_FLUSH: VFE's work and the flush note, nothing else. -/
theorem stateFlushStep_cases (waterMark : BitVec 8) (mask : BitVec 16) (s : State) :
    ∃ w f, stateFlushStep waterMark mask s = { s with vfe := { s.vfe with work := w, primSinceStateFlush := f } } := by
  unfold stateFlushStep
  split
  · exact ⟨_, _, rfl⟩
  · exact ⟨_, s.vfe.primSinceStateFlush, rfl⟩

/-! ### What the decoders give -/

/-- The body of a command decodes to a command. -/
theorem decodeBody_isCommand {c : List DWord} {i : Instr} (h : decodeBody c = .ok i) : i.isCommand = true := by
  unfold decodeBody at h
  simp only at h
  repeat' (split at h)
  all_goals first
    | (simp only [decodeMediaVfeState, decodeMediaCurbeLoad, decodeMediaInterfaceDescriptorLoad,
        decodeMediaGatewayState, decodeMediaStateFlush, decodeMediaObject, decodeMediaObjectPrt,
        decodeMediaObjectWalker, whenZero] at h
       split at h
       · simp only [Except.ok.injEq] at h; subst h; rfl
       · cases h)
    | cases h

/-- What is decoded from the stream is a command. -/
theorem decodeCommand_isCommand {ds rest : List DWord} {i : Instr} (h : decodeCommand ds = .ok (i, rest)) :
    i.isCommand = true := by
  unfold decodeCommand at h
  split at h
  · cases h
  · split at h
    · cases h
    · split at h
      · rename_i i' hb
        simp only [Except.ok.injEq, Prod.mk.injEq] at h
        rw [← h.1]
        exact decodeBody_isCommand hb
      · cases h

/-- What is decoded from a SEND is a message. -/
theorem decodeMessage_isMessage {m : SendMsg} {i : Instr} (h : decodeMessage m = .ok i) : i.isCommand = false := by
  unfold decodeMessage whenZero at h
  split at h
  · simp only [Except.ok.injEq] at h
    subst h
    unfold messageForm
    split <;> rfl
  · cases h

/-! ### What meanings can do -/

/-- Everything a command that is answered can do: write the record; load the ROB; write a barrier; begin a flush; begin
a generation. `cs` stands for the moved command pointer. -/
theorem execCommand_next {i : Instr} {s t : State} (hi : i.isCommand = true) (h : exec i s = .next t) :
    (∃ c, i = .mediaVfeState c ∧ vfeRecordInRange s.params c.fields = true ∧ vfeRecordInBudget s.params c.fields = true
        ∧ t = (writeVfeRecord s c.fields).takeCommand c.dwordLength)
      ∨ (∃ regs n, t = (loadCurbe s regs).takeCommand n)
      ∨ (∃ regs n, t = (loadDescriptors s regs).takeCommand n)
      ∨ (∃ c, i = .mediaGatewayState c
          ∧ t = (writeBarrier s c.barrierId.toNat ⟨c.byte, c.threadCount⟩).takeCommand c.dwordLength)
      ∨ (∃ w m n, t = stateFlushStep w m (s.takeCommand n))
      ∨ (∃ g cs l, t = generateStep g
          { s with cs := cs
                   vfe := { s.vfe with primSinceFlush := true, primSinceStateFlush := true, lastPrt := l } }) := by
  cases i <;> simp [Instr.isCommand] at hi <;> simp only [exec] at h
  case mediaVfeState c =>
    simp only [execMediaVfeState, require_next, Host.Outcome.next.injEq] at h
    exact .inl ⟨c, rfl, h.2.2.1, h.2.2.2.1, h.2.2.2.2.2.2.symm⟩
  case mediaCurbeLoad c =>
    simp only [execMediaCurbeLoad, require_next, Host.Outcome.next.injEq] at h
    exact .inr (.inl ⟨_, _, h.2.2.2.2.2.2.2.symm⟩)
  case mediaInterfaceDescriptorLoad c =>
    simp only [execMediaInterfaceDescriptorLoad, require_next, Host.Outcome.next.injEq] at h
    exact .inr (.inr (.inl ⟨_, _, h.2.2.2.2.2.2.2.2.symm⟩))
  case mediaGatewayState c =>
    simp only [execMediaGatewayState, require_next, Host.Outcome.next.injEq] at h
    exact .inr (.inr (.inr (.inl ⟨c, rfl, h.2.2.2.2.2.symm⟩)))
  case mediaStateFlush c =>
    simp only [execMediaStateFlush, require_next, Host.Outcome.next.injEq] at h
    exact .inr (.inr (.inr (.inr (.inl ⟨_, _, _, h.2.2.symm⟩))))
  case mediaObject c =>
    simp only [execMediaObject, require_next, requireDescriptor, requireIndirect] at h
    have h := h.2.2.2.2.2.2.2.2.2
    refine .inr (.inr (.inr (.inr (.inr ?_))))
    split at h
    · simp only [require_next, Host.Outcome.next.injEq] at h
      exact ⟨_, _, _, h.2.symm⟩
    · simp only [require_next, Host.Outcome.next.injEq] at h
      exact ⟨_, _, _, h.2.2.2.2.symm⟩
  case mediaObjectPrt c =>
    simp only [execMediaObjectPrt, require_next, requirePrt, requireDescriptor, Host.Outcome.next.injEq, generatePrt,
      startGeneration] at h
    exact .inr (.inr (.inr (.inr (.inr ⟨_, _, _, h.2.2.2.2.2.2.2.symm⟩))))
  case mediaObjectWalker c =>
    simp only [execMediaObjectWalker, require_next, requireDescriptor, Host.Outcome.next.injEq] at h
    exact .inr (.inr (.inr (.inr (.inr ⟨_, _, _, h.2.2.2.2.2.2.2.2.2.symm⟩))))

/-- Everything a message that is answered can do: wait; take its place in ChildQ off and start a child or do nothing;
release a synchronized root; release what a root holds. -/
theorem execMessage_next {i : Instr} {s t : State} (hi : i.isCommand = false) (h : exec i s = .next t) :
    t = s
      ∨ t = s.popChildQ
      ∨ (∃ m : MsgFields, t = startChild s m)
      ∨ (∃ r x, waitingSynchronizedRoot s = some r ∧ releaseRoot s.popBoth r x = .next t)
      ∨ (∃ (m : MsgFields) (o : Outstanding), outstandingOf s.ts m.fftid = some o ∧
          (t = ({ s.popChildQ with ts := s.popChildQ.ts.markDereferenced m.fftid }.dereference m.handle).endRoot m.eot o
            ∨ t = s.popChildQ.endRoot m.eot o)) := by
  have hroot : ∀ m, spawnRoot m s = .next t →
      t = s ∨ ∃ r x, waitingSynchronizedRoot s = some r ∧ releaseRoot s.popBoth r x = .next t := by
    intro m h
    rcases spawnRoot_next h with ⟨-, h⟩ | ⟨r, h1, h2⟩
    · exact .inl h
    · exact .inr ⟨r, _, h1, h2⟩
  have hnone : derefChild s = .next t → t = s.popChildQ := by
    intro h
    simpa [derefChild] using h.symm
  cases i <;> simp only [Instr.isCommand, Bool.true_eq_false] at hi <;> clear hi <;> simp only [exec] at h
  case tsDerefUrbRoot m =>
    obtain ⟨o, ho, ht⟩ := derefUrbRoot_next h
    exact .inr (.inr (.inr (.inr ⟨m, o, ho, .inl ht⟩)))
  case tsSpawnChildRoot m => exact .inr (.inr (.inl ⟨m, (spawnChild_next h).2.2⟩))
  case tsDerefUrbChild m => exact .inr (.inl (hnone h))
  case tsSpawnChildChild m => exact .inr (.inr (.inl ⟨m, (spawnChild_next h).2.2⟩))
  case tsDerefNourbRoot m =>
    obtain ⟨o, ho, ht⟩ := derefNourbRoot_next h
    exact .inr (.inr (.inr (.inr ⟨m, o, ho, .inr ht⟩)))
  case tsSpawnRootRoot m =>
    rcases hroot m h with h | h
    · exact .inl h
    · exact .inr (.inr (.inr (.inl h)))
  case tsDerefNourbChild m => exact .inr (.inl (hnone h))
  case tsSpawnRootChild m =>
    rcases hroot m h with h | h
    · exact .inl h
    · exact .inr (.inr (.inr (.inl h)))

/-- TS serves the message at the head of ChildQ unless it is a spawn-root message that must wait. -/
theorem tsTurn_serves {s : State} {m : SendMsg} {queue : List SendMsg} (hq : s.ts.childQ = m :: queue)
    (h : childQHeld s m = false) : tsTurn s = serveMessage m s := by
  simp [tsTurn, hq, h]

/-- A turn of TS that is answered serves RootQ, or the message at the head of ChildQ. -/
theorem tsTurn_next {s t : State} (h : tsTurn s = .next t) :
    serveRootQ s = .next t ∨ ∃ m, s.ts.childQ.head? = some m ∧ serveMessage m s = .next t := by
  unfold tsTurn at h
  split at h
  · exact .inl h
  · rename_i m _ hq
    split at h
    · exact .inl h
    · exact .inr ⟨m, by simp [hq], h⟩

/-! ### The entries of ChildQ that are taken -/

/-- A request made by TS adds at most one unaccepted child request, a root's none. -/
theorem unacceptedChildren_append_le (td : Dispatcher) (q : TdReq) :
    unacceptedChildren { td with queue := td.queue ++ [q] }
      ≤ unacceptedChildren td + if q.kind == .child then 1 else 0 := by
  simp only [unacceptedChildren, List.drop_append, List.countP_append]
  have : ((([q] : List TdReq).drop (td.freeSlots - td.queue.length)).countP fun q => q.kind == .child)
      ≤ ([q] : List TdReq).countP fun q => q.kind == .child :=
    (List.drop_sublist _ _).countP_le
  simpa [List.countP_cons] using this

/-- TD accepts requests in order, so serving the first changes no other's turn. -/
theorem unacceptedChildren_served {td : Dispatcher} {q : TdReq} {queue : List TdReq} (hq : td.queue = q :: queue)
    (hf : 0 < td.freeSlots) (threads : List Thread) (next : Nat) :
    unacceptedChildren ⟨queue, threads, td.freeSlots - 1, next⟩ = unacceptedChildren td := by
  obtain ⟨n, hn⟩ : ∃ n, td.freeSlots = n + 1 := ⟨td.freeSlots - 1, by omega⟩
  simp [unacceptedChildren, hq, hn]

/-- A slot that becomes free leaves no more of them unaccepted. -/
theorem unacceptedChildren_freed_le (td : Dispatcher) (threads : List Thread) :
    unacceptedChildren { td with freeSlots := td.freeSlots + 1, threads := threads } ≤ unacceptedChildren td := by
  simp only [unacceptedChildren]
  rw [← List.drop_drop]
  exact (List.drop_sublist _ _).countP_le

end Sys2Proof.Laws
end

