-- ==== Sys2Proof/Laws/PerInstr.lean ====
section
/-! SUPPORT. Laws/PerInstr.lean: statements made per instruction, one lemma per constructor of Instr. -/

namespace Sys2Proof.Laws

open Sys2Proof

/-- The low half of DWord 0 is the DWord Length. -/
@[simp] theorem bits_headerDWord_length (h l : BitVec 16) : bits (headerDWord h l) 0 16 = l := by
  unfold bits headerDWord
  ext i hi
  rw [BitVec.getElem_extractLsb']
  simp only [BitVec.getLsbD_append (x := h) (y := l)]
  simp [hi, BitVec.getLsbD_eq_getElem]

/-- The high half of DWord 0 is the header. -/
@[simp] theorem bits_headerDWord_header (h l : BitVec 16) : bits (headerDWord h l) 16 16 = h := by
  unfold bits headerDWord
  ext i hi
  rw [BitVec.getElem_extractLsb']
  simp only [BitVec.getLsbD_append (x := h) (y := l)]
  simp [hi, BitVec.getLsbD_eq_getElem]

@[simp] theorem dw_cons_zero (w : DWord) (l : List DWord) : dw (w :: l) 0 = w := rfl

/-- A packet is as long as its own DWord 0 says (30_encoding.md R122); of a message, the descriptor's MBZ bits are
zero (30_encoding.md R135). -/
def EncodedLength.Holds : Packet → Prop
  | .command ds => ds.length = commandDWords (dw ds 0)
  | .message m => m.desc.extractLsb' 5 15 = 0 ∧ m.desc.extractLsb' 2 2 = 0

/-- The encoding of a well-formed instruction is as long as its own DWord 0 says (30_encoding.md R121, R122). -/
def EncodedLength.Statement (i : Instr) : Prop := i.wellFormed = true → EncodedLength.Holds (encode i)

theorem EncodedLength.mediaVfeState (c : MediaVfeState) : EncodedLength.Statement (.mediaVfeState c) := by
  intro h
  have h : c.dwordLength = lengthField 8 := by simpa [Instr.wellFormed] using h
  simp [EncodedLength.Holds, encode, encodeVfeRecord, commandDWords, h, lengthField]

theorem EncodedLength.mediaCurbeLoad (c : MediaCurbeLoad) : EncodedLength.Statement (.mediaCurbeLoad c) := by
  intro h
  have h : c.dwordLength = lengthField 4 := by simpa [Instr.wellFormed] using h
  simp [EncodedLength.Holds, encode, commandDWords, h, lengthField]

theorem EncodedLength.mediaInterfaceDescriptorLoad (c : MediaInterfaceDescriptorLoad) :
    EncodedLength.Statement (.mediaInterfaceDescriptorLoad c) := by
  intro h
  have h : c.dwordLength = lengthField 4 := by simpa [Instr.wellFormed] using h
  simp [EncodedLength.Holds, encode, commandDWords, h, lengthField]

theorem EncodedLength.mediaGatewayState (c : MediaGatewayState) : EncodedLength.Statement (.mediaGatewayState c) := by
  intro h
  have h : c.dwordLength = lengthField 2 := by simpa [Instr.wellFormed] using h
  simp [EncodedLength.Holds, encode, commandDWords, h, lengthField]

theorem EncodedLength.mediaStateFlush (c : MediaStateFlush) : EncodedLength.Statement (.mediaStateFlush c) := by
  intro h
  have h : c.dwordLength = lengthField 2 := by simpa [Instr.wellFormed] using h
  simp [EncodedLength.Holds, encode, commandDWords, h, lengthField]

theorem EncodedLength.mediaObject (c : MediaObject) : EncodedLength.Statement (.mediaObject c) := by
  intro h
  obtain ⟨hn, h⟩ : c.inlineData.length ≤ maxInlineDWords ∧ c.dwordLength = lengthField (6 + c.inlineData.length) := by
    simpa [Instr.wellFormed] using h
  simp only [maxInlineDWords] at hn
  simp [EncodedLength.Holds, encode, commandDWords, h, lengthField]
  omega

theorem EncodedLength.mediaObjectPrt (c : MediaObjectPrt) : EncodedLength.Statement (.mediaObjectPrt c) := by
  intro h
  obtain ⟨hn, h⟩ : c.inlineData.length = prtInlineDWords ∧ c.dwordLength = lengthField 16 := by
    simpa [Instr.wellFormed] using h
  simp only [prtInlineDWords] at hn
  simp [EncodedLength.Holds, encode, commandDWords, h, hn, lengthField]

theorem EncodedLength.mediaObjectWalker (c : MediaObjectWalker) : EncodedLength.Statement (.mediaObjectWalker c) := by
  intro h
  obtain ⟨hn, h⟩ : c.inlineData.length ≤ maxInlineDWords ∧ c.dwordLength = lengthField (17 + c.inlineData.length) := by
    simpa [Instr.wellFormed] using h
  simp only [maxInlineDWords] at hn
  simp [EncodedLength.Holds, encode, encodeWalkerParams, commandDWords, h, lengthField]
  omega

theorem EncodedLength.tsDerefUrbRoot (m : MsgFields) : EncodedLength.Statement (.tsDerefUrbRoot m) :=
  fun _ => by simp [EncodedLength.Holds, encode, encodeMessage]

theorem EncodedLength.tsSpawnChildRoot (m : MsgFields) : EncodedLength.Statement (.tsSpawnChildRoot m) :=
  fun _ => by simp [EncodedLength.Holds, encode, encodeMessage]

theorem EncodedLength.tsDerefUrbChild (m : MsgFields) : EncodedLength.Statement (.tsDerefUrbChild m) :=
  fun _ => by simp [EncodedLength.Holds, encode, encodeMessage]

theorem EncodedLength.tsSpawnChildChild (m : MsgFields) : EncodedLength.Statement (.tsSpawnChildChild m) :=
  fun _ => by simp [EncodedLength.Holds, encode, encodeMessage]

theorem EncodedLength.tsDerefNourbRoot (m : MsgFields) : EncodedLength.Statement (.tsDerefNourbRoot m) :=
  fun _ => by simp [EncodedLength.Holds, encode, encodeMessage]

theorem EncodedLength.tsSpawnRootRoot (m : MsgFields) : EncodedLength.Statement (.tsSpawnRootRoot m) :=
  fun _ => by simp [EncodedLength.Holds, encode, encodeMessage]

theorem EncodedLength.tsDerefNourbChild (m : MsgFields) : EncodedLength.Statement (.tsDerefNourbChild m) :=
  fun _ => by simp [EncodedLength.Holds, encode, encodeMessage]

theorem EncodedLength.tsSpawnRootChild (m : MsgFields) : EncodedLength.Statement (.tsSpawnRootChild m) :=
  fun _ => by simp [EncodedLength.Holds, encode, encodeMessage]

end Sys2Proof.Laws
end

