-- ==== Sys2Proof/Tests/Slice0.lean ====
section
/-! SUPPORT. Tests/Slice0.lean: small tests, each one step or one operation. The expected results are those of
95_test_vectors.md (named in the comments) or worked out by hand from the rules. -/

namespace Sys2Proof.Tests

open Sys2Proof Sys2Proof.Machine

set_option maxRecDepth 8000

/-! ### Helpers -/

/-- The next state of an answer. -/
def next? (r : Result) : Option State :=
  match r with
  | .next s => some s
  | _ => none

/-- The refusal of an answer. -/
def refusal? (r : Result) : Option Refusal :=
  match r with
  | .refused f => some f
  | _ => none

/-- The next state, or the old one. -/
def nextOr (r : Result) (s : State) : State := (next? r).getD s

/-- The bytes of DWords in memory, little-endian. -/
def bytesOf (l : List DWord) : List Byte := l.flatMap fun w => [bits w 0 8, bits w 8 8, bits w 16 8, bits w 24 8]

/-- A register from DWords, DWord 0 first. -/
def reg (l : List DWord) : Reg := Reg.ofList l

/-! ### Configuration B0 of 95_test_vectors.md -/

def basesB0 : Bases where
  generalState := 0x10000000
  dynamicState := 0x20000000
  dynamicBound := 0x20100000
  surfaceState := 0x30000000
  indirectObject := 0x40000000
  indirectBound := 0x40100000
  instruction := 0x50000000

def descriptor0 : List DWord := [0x00000040, 0, 0x00000400, 0x00000800, 0x00020000, 0x00000001, 0, 0]
def descriptor1 : List DWord := [0x00000080, 0, 0, 0, 0x00010001, 0, 0, 0]

def memB0 : List Host.Cell :=
  Memory.write (Memory.write [] 0x20001000 ((List.range 64).map (BitVec.ofNat 8)))
    0x20002000 (bytesOf (descriptor0 ++ descriptor1))

/-- The positions the test vectors use: 16, 13, 7 (42_state_commands.md R264 (c)). -/
def modeBitsV : Config.ModeBits := ⟨.mode16Opcode13, 6⟩

/-- The start state with the bases and memory of B0. -/
def start : State :=
  { State.reset with
    params := { Config.defaults with modeBits := modeBitsV }
    cs := { State.reset.cs with bases := basesB0 }
    mem := memB0 }

/-- The record of V-VFE1. -/
def recordZ : VfeRecord :=
  { zeroRecord with
    maximumNumberOfThreads := 59, numberOfUrbEntries := 16, urbEntryAllocationSize := 16, curbeAllocationSize := 8 }

def curbe0 : Reg :=
  reg [0x03020100, 0x07060504, 0x0B0A0908, 0x0F0E0D0C, 0x13121110, 0x17161514, 0x1B1A1918, 0x1F1E1D1C]
def curbe1 : Reg :=
  reg [0x23222120, 0x27262524, 0x2B2A2928, 0x2F2E2D2C, 0x33323130, 0x37363534, 0x3B3A3938, 0x3F3E3D3C]

/-- "State Z" of 95_test_vectors.md Part C, written out: after V-VFE1, V-CURBE1, V-IDL1. -/
def stateZ : State :=
  { start with
    vfe := { start.vfe with record := recordZ, loaded := true, pool := HandlePool.fresh 16 }
    rob := { regs := [(0, reg descriptor0), (1, reg descriptor1), (32, curbe0), (33, curbe1)]
             idtCount := 2, curbeLength := 2, curbeDefined := 2 } }

/-! ### Decoding: words written out from the encoding tables (30_encoding.md R125 to R136) -/

theorem test_decode_vfeState :
    decode (.command [0x70000006, 0x00000C35, 0x003B10E0, 0, 0x00100008, 0xC0000007, 0x00F1F00F, 0x80000000])
      = .ok (.mediaVfeState ⟨6,
          { scratchSpaceBasePointer := 3, stackSize := 3, perThreadScratchSpace := 5, maximumNumberOfThreads := 59
            numberOfUrbEntries := 16, resetGatewayTimer := true, bypassGatewayControl := true, fastPreempt := true
            urbEntryAllocationSize := 16, curbeAllocationSize := 8, scoreboardEnable := true, scoreboardType := true
            scoreboardMask := 7
            deltas := #v[⟨0xF, 0⟩, ⟨0, 0xF⟩, ⟨1, 0xF⟩, ⟨0, 0⟩, ⟨0, 0⟩, ⟨0, 0⟩, ⟨0, 0⟩, ⟨0, 8⟩] }⟩) := by decide
theorem test_decode_curbeLoad :
    decode (.command [0x70010002, 0, 0x00000040, 0x00001000]) = .ok (.mediaCurbeLoad ⟨2, 0x40, 0x1000⟩) := by decide
theorem test_decode_idLoad :
    decode (.command [0x70020002, 0, 0x00000040, 0x00002000])
      = .ok (.mediaInterfaceDescriptorLoad ⟨2, 0x40, 0x2000⟩) := by decide
theorem test_decode_gatewayState :
    decode (.command [0x70030000, 0x000FFF3C]) = .ok (.mediaGatewayState ⟨0, 15, 0xFF, 60⟩) := by decide
theorem test_decode_stateFlush :
    decode (.command [0x70040000, 0x00040002]) = .ok (.mediaStateFlush ⟨0, 4, 2⟩) := by decide
/-- V-MO2 with one inline DWord. -/
theorem test_decode_object :
    decode (.command [0x71000005, 1, 0x81240020, 0x100, 0x00050003, 0x00020081, 0xAAAAAAAA])
      = .ok (.mediaObject
          { dwordLength := 5, interfaceDescriptorOffset := 1, childrenPresent := true, threadSync := true
            useScoreboard := true, halfSlice := 2, indirectDataLength := 0x20, indirectDataStartAddress := 0x100
            scoreboardX := 3, scoreboardY := 5, scoreboardColor := 2, scoreboardMask := 0x81
            inlineData := [0xAAAAAAAA] }) := by decide
theorem test_decode_prt :
    decode (.command [0x7102000E, 3, 0x80C00000, 0, 1, 2, 3, 4, 5, 6, 7, 8, 9, 10, 11, 12])
      = .ok (.mediaObjectPrt ⟨14, 3, true, true, true, [1, 2, 3, 4, 5, 6, 7, 8, 9, 10, 11, 12]⟩) := by decide
/-- The parameter set of A1. -/
theorem test_decode_walker :
    decode (.command [0x71030010, 0, 0x01200000, 0, 0, 0x81, 0x85011100, 0x00070005, 0x00200020, 0x00030004, 0x00010002,
        0x00000001, 0x000203FE, 0x00440078, 0x03FF0001, 0x00000020, 0x00200000, 0xBBBBBBBB])
      = .ok (.mediaObjectWalker
          { dwordLength := 16, interfaceDescriptorOffset := 0, childrenPresent := false, threadSync := true
            useScoreboard := true, indirectDataLength := 0, scoreboardMask := 0x81
            walk :=
              { dualMode := true, repel := false, colorCountMinusOne := 5, middleLoopExtraSteps := 1
                localMidLoopUnit := ⟨1, 1⟩, globalLoopExecCount := 7, localLoopExecCount := 5
                blockResolution := ⟨32, 32⟩, localStart := ⟨4, 3⟩, localEnd := ⟨2, 1⟩
                localOuterLoopStride := ⟨1, 0⟩, localInnerLoopUnit := ⟨0x3FE, 2⟩, globalResolution := ⟨120, 68⟩
                globalStart := ⟨1, 0x3FF⟩, globalOuterLoopStride := ⟨32, 0⟩, globalInnerLoopUnit := ⟨0, 32⟩ }
            inlineData := [0xBBBBBBBB] }) := by decide

/-- V-M1's M0 with every field set. -/
def m0Full : Reg := reg [0xF0000005, 0xFFFFFFFF, 0xF3FFFC1A, 0xFFFFFFFF, 0xFFFF0808, 0xFFFFFF07, 0xFFFFFFFF, 0xFFFFFFFF]
def fieldsFull (eot : Bool) : MsgFields :=
  { eot := eot, handle := 5, offset := 8, length := 2, interfaceDescriptorOffset := 1, color := 10, barrierId := 3
    fftid := 7 }

theorem test_decode_derefUrbRoot :
    decode (.message ⟨0x00000, true, m0Full⟩) = .ok (.tsDerefUrbRoot (fieldsFull true)) := by decide
theorem test_decode_spawnChildRoot :
    decode (.message ⟨0x00001, false, m0Full⟩) = .ok (.tsSpawnChildRoot (fieldsFull false)) := by decide
theorem test_decode_derefUrbChild :
    decode (.message ⟨0x00002, true, m0Full⟩) = .ok (.tsDerefUrbChild (fieldsFull true)) := by decide
theorem test_decode_spawnChildChild :
    decode (.message ⟨0x00003, false, m0Full⟩) = .ok (.tsSpawnChildChild (fieldsFull false)) := by decide
theorem test_decode_derefNourbRoot :
    decode (.message ⟨0x00010, true, m0Full⟩) = .ok (.tsDerefNourbRoot (fieldsFull true)) := by decide
theorem test_decode_spawnRootRoot :
    decode (.message ⟨0x00011, false, m0Full⟩) = .ok (.tsSpawnRootRoot (fieldsFull false)) := by decide
theorem test_decode_derefNourbChild :
    decode (.message ⟨0x00012, true, m0Full⟩) = .ok (.tsDerefNourbChild (fieldsFull true)) := by decide
theorem test_decode_spawnRootChild :
    decode (.message ⟨0x00013, false, m0Full⟩) = .ok (.tsSpawnRootChild (fieldsFull false)) := by decide

/-- B1: undefined subopcodes, another unit's command, MBZ bits, Header Present. -/
theorem test_decode_refused :
    decode (.command [0x70050000, 0]) = .error .undefinedCommand
      ∧ decode (.command [0x71010004, 0, 0, 0, 0, 0]) = .error .undefinedCommand
      ∧ decode (.command [0x61010000, 0]) = .error .notMediaCommand
      ∧ decode (.command [0x70000006, 0x00000100, 0, 0, 0, 0, 0, 0]) = .error .reservedBits
      ∧ decode (.command [0x70000006, 0, 0, 0]) = .error .truncated
      ∧ decode (.message ⟨0x80001, false, 0⟩) = .error .reservedBits
      ∧ decode (.message ⟨0x00001, false, reg [0x00010000]⟩) = .error .reservedBits := by decide

/-- Table words. -/
theorem test_table_words :
    (decodeTableWord 32 0x7102000E).isSome = true ∧ decodeTableWord 32 0x70050000 = none
      ∧ decodeTableWord 24 0x13
          = some (.tsSpawnRootChild { eot := false, handle := 0, offset := 0, length := 0,
                                      interfaceDescriptorOffset := 0, color := 0, barrierId := 0, fftid := 0 }) := by
  decide

/-! ### WellFormed: one ill-formed term for each check -/

def object0 : MediaObject :=
  { dwordLength := 7, interfaceDescriptorOffset := 0, childrenPresent := false, threadSync := false
    useScoreboard := false, halfSlice := 0, indirectDataLength := 0, indirectDataStartAddress := 0, scoreboardX := 0
    scoreboardY := 0, scoreboardColor := 0, scoreboardMask := 0
    inlineData := [0x11111111, 0x22222222, 0x33333333] }

def prt1 : MediaObjectPrt := ⟨14, 0, true, true, true, [1, 2, 3, 4, 5, 6, 7, 8, 9, 10, 11, 12]⟩

/-- The walk of V-W1. -/
def walkW1 : WalkerParams :=
  { dualMode := false, repel := false, colorCountMinusOne := 0, middleLoopExtraSteps := 0, localMidLoopUnit := ⟨0, 0⟩
    globalLoopExecCount := 0, localLoopExecCount := 0, blockResolution := ⟨2, 2⟩, localStart := ⟨0, 0⟩
    localEnd := ⟨0, 0⟩, localOuterLoopStride := ⟨0, 1⟩, localInnerLoopUnit := ⟨1, 0⟩, globalResolution := ⟨2, 2⟩
    globalStart := ⟨0, 0⟩, globalOuterLoopStride := ⟨0, 2⟩, globalInnerLoopUnit := ⟨2, 0⟩ }

/-- The walk of V-W2. -/
def walkW2 : WalkerParams :=
  { walkW1 with
    colorCountMinusOne := 1, blockResolution := ⟨2, 1⟩, globalResolution := ⟨3, 1⟩, globalOuterLoopStride := ⟨0, 1⟩ }

def walker1 : MediaObjectWalker :=
  { dwordLength := 15, interfaceDescriptorOffset := 0, childrenPresent := false, threadSync := false
    useScoreboard := false, indirectDataLength := 0, scoreboardMask := 0, walk := walkW1, inlineData := [] }

theorem test_wellFormed_refuses :
    (Instr.mediaVfeState ⟨5, recordZ⟩).wellFormed = false
      ∧ (Instr.mediaCurbeLoad ⟨3, 0, 0⟩).wellFormed = false
      ∧ (Instr.mediaInterfaceDescriptorLoad ⟨3, 0, 0⟩).wellFormed = false
      ∧ (Instr.mediaGatewayState ⟨1, 0, 0, 0⟩).wellFormed = false
      ∧ (Instr.mediaStateFlush ⟨1, 0, 0⟩).wellFormed = false
      ∧ (Instr.mediaObject { object0 with dwordLength := 3 }).wellFormed = false
      ∧ (Instr.mediaObject { object0 with dwordLength := 509, inlineData := List.replicate 505 0 }).wellFormed = false
      ∧ (Instr.mediaObjectPrt { prt1 with dwordLength := 20 }).wellFormed = false
      ∧ (Instr.mediaObjectPrt { prt1 with inlineData := [] }).wellFormed = false
      ∧ (Instr.mediaObjectWalker { walker1 with dwordLength := 14 }).wellFormed = false
      ∧ (Instr.mediaObjectWalker
            { walker1 with dwordLength := 520, inlineData := List.replicate 505 0 }).wellFormed = false := by
  decide
theorem test_wellFormed_accepts :
    (Instr.mediaObject object0).wellFormed = true ∧ (Instr.mediaObjectPrt prt1).wellFormed = true
      ∧ (Instr.mediaObjectWalker walker1).wellFormed = true := by decide

/-! ### State commands -/

/-- V-VFE1. -/
theorem test_vfeState :
    (next? (exec (.mediaVfeState ⟨6, recordZ⟩) start)).map (fun t => (t.vfe.record, t.vfe.pool, t.vfe.loaded))
      = some (recordZ, ⟨List.replicate 16 false, 0⟩, true) := by decide
/-- V-VFE3, V-VFE4, and a command without the flush it needs. -/
theorem test_vfeState_refused :
    refusal? (exec (.mediaVfeState ⟨6, { recordZ with numberOfUrbEntries := 62, curbeAllocationSize := 0 }⟩) start)
        = some .robBudget
      ∧ (next? (exec (.mediaVfeState ⟨6, { recordZ with numberOfUrbEntries := 61, curbeAllocationSize := 15 }⟩)
          start)).isSome = true
      ∧ refusal? (exec (.mediaVfeState ⟨6, { recordZ with maximumNumberOfThreads := 60 }⟩) start)
          = some .fieldOutOfRange
      ∧ refusal? (exec (.mediaVfeState ⟨6, { recordZ with perThreadScratchSpace := 12 }⟩) start)
          = some .fieldOutOfRange
      ∧ refusal? (exec (.mediaVfeState ⟨6, recordZ⟩)
          { stateZ with vfe := { stateZ.vfe with primSinceFlush := true, primSinceStateFlush := true } })
          = some .flushMissing := by decide

/-- V-CURBE1: the whole state after it, from the state after V-VFE1. -/
theorem test_curbeLoad :
    (next? (exec (.mediaCurbeLoad ⟨2, 0x40, 0x1000⟩) { stateZ with rob := State.reset.rob })).map (·.rob)
      = some { regs := [(32, curbe0), (33, curbe1)], idtCount := 0, curbeLength := 2, curbeDefined := 2 } := by
  decide
/-- V-CURBE3, V-CURBE4, V-CURBE5. -/
theorem test_curbeLoad_refused :
    refusal? (exec (.mediaCurbeLoad ⟨2, 0x120, 0x1000⟩) stateZ) = some .curbeTooLong
      ∧ refusal? (exec (.mediaCurbeLoad ⟨2, 0x30, 0x1000⟩) stateZ) = some .misaligned
      ∧ refusal? (exec (.mediaCurbeLoad ⟨2, 0x40, 0xFFFE0⟩) stateZ) = some .beyondBound := by decide

/-- V-IDL1. -/
theorem test_idLoad :
    (next? (exec (.mediaInterfaceDescriptorLoad ⟨2, 0x40, 0x2000⟩) { stateZ with rob := State.reset.rob })).map (·.rob)
      = some { regs := [(0, reg descriptor0), (1, reg descriptor1)], idtCount := 2, curbeLength := 0
               curbeDefined := 0 } := by decide
/-- V-IDL2, V-IDL3, and the fields of descriptor 0. -/
theorem test_descriptor :
    refusal? (exec (.mediaInterfaceDescriptorLoad ⟨2, 0x400, 0x2000⟩) stateZ) = some .fieldOutOfRange
      ∧ descriptorMbz modeBitsV (reg [0x00000041]) = false ∧ descriptorInRange (reg [0, 0, 0x00000414]) = false
      ∧ descriptorMbz modeBitsV (reg [0, 0x00060000]) = true
      ∧ (descriptorOf (reg descriptor0)).kernelStartPointer = 1
      ∧ (descriptorOf (reg descriptor0)).samplerStatePointer = 0x20
      ∧ (descriptorOf (reg descriptor0)).bindingTablePointer = 0x40
      ∧ (descriptorOf (reg descriptor0)).constantUrbReadLength = 2
      ∧ (descriptorOf (reg descriptor0)).barrierId = 1 := by decide

/-- R264 (b): a mode bit is a field at one set of positions and MBZ at another; MaskStack is always bit 11. -/
theorem test_modeBits :
    (modesOf modeBitsV (reg [0, 0x00012080])).exceptions = ⟨true, false, true⟩
      ∧ (modesOf modeBitsV (reg [0, 0x00012080])).floatingPointMode = true
      ∧ descriptorMbz modeBitsV (reg [0, 0x00012880]) = true
      ∧ descriptorMbz ⟨.mode16Opcode14, 0⟩ (reg [0, 0x00012880]) = false
      ∧ descriptorMbz ⟨.mode16Opcode14, 0⟩ (reg [0, 0x00014802]) = true
      ∧ (modesOf ⟨.mode15Opcode13, 8⟩ (reg [0, 0x0000A200])).exceptions = ⟨true, false, true⟩
      ∧ (modesOf ⟨.mode15Opcode13, 8⟩ (reg [0, 0x00000800])).exceptions = ⟨false, true, false⟩ := by decide

/-- V-GW1. -/
theorem test_gatewayState :
    (next? (exec (.mediaGatewayState ⟨0, 1, 0, 4⟩) stateZ)).map (·.gateway.barriers)
      = some (State.reset.gateway.barriers.set 1 ⟨0, 4⟩) := by decide
/-- V-GW3. -/
theorem test_gatewayState_refused :
    refusal? (exec (.mediaGatewayState ⟨0, 1, 0, 0⟩) stateZ) = some .fieldOutOfRange
      ∧ refusal? (exec (.mediaGatewayState ⟨0, 1, 0, 61⟩) stateZ) = some .fieldOutOfRange
      ∧ refusal? (exec (.mediaGatewayState ⟨0, 16, 0, 1⟩) stateZ) = some .fieldOutOfRange := by decide

/-- V-FL2: held with three free slots, and released with four on VFE's next turn. -/
theorem test_stateFlush :
    (next? (exec (.mediaStateFlush ⟨0, 4, 2⟩) { stateZ with td := { stateZ.td with freeSlots := 3 } })).map (·.vfe.work)
        = some (some (.flush 4 2))
      ∧ (next? (vfeTurn { stateZ with vfe := { stateZ.vfe with work := some (.flush 4 2) } })).map (·.vfe.work)
        = some none := by decide
/-- A masked barrier that is not clear holds it. -/
theorem test_stateFlush_barrier :
    stateFlushDone { stateZ with
      gateway := { stateZ.gateway with reportedClear := 0 }
      td := { stateZ.td with
              threads := [⟨0, .child, 0, [reg [0, 0, 0x01000000]], ⟨false, false, false, ⟨false, false, false⟩⟩, .zero,
                           none, false⟩] } } 0 2 = false := by decide

/-! ### Primitive commands -/

/-- V-MO1. -/
theorem test_object :
    (next? (exec (.mediaObject object0) stateZ)).map (fun t => (t.rob.read 40, t.vfe.pool.head, t.vfe.work))
        = some (reg [0x11111111, 0x22222222, 0x33333333], 1, none)
      ∧ (next? (exec (.mediaObject object0) stateZ)).map (·.ts.rootQ)
        = some [⟨objectControl object0, ⟨0, 0, 0⟩, 0, 1, 0, 0⟩] := by decide
/-- V-MO4. -/
theorem test_object_refused :
    refusal? (exec (.mediaObject { object0 with indirectDataLength := 0x7E0 }) stateZ) = some .fieldOutOfRange
      ∧ refusal? (exec (.mediaObject { object0 with indirectDataLength := 0x30 }) stateZ) = some .misaligned
      ∧ refusal? (exec (.mediaObject
          { object0 with indirectDataLength := 0x20, indirectDataStartAddress := 0x20000000 }) stateZ)
          = some .reservedBits
      ∧ refusal? (exec (.mediaObject { object0 with halfSlice := 3 }) stateZ) = some .halfSliceReserved
      ∧ refusal? (exec (.mediaObject { object0 with interfaceDescriptorOffset := 2 }) stateZ)
          = some .descriptorNotLoaded
      ∧ refusal? (exec (.mediaObject { object0 with interfaceDescriptorOffset := 31 }) stateZ)
          = some .fieldOutOfRange := by decide

/-- V-PRT1. -/
theorem test_prt :
    (next? (exec (.mediaObjectPrt prt1) stateZ)).map (fun t => (t.rob.read 40, t.rob.read 41, t.vfe.lastPrt))
      = some (reg [1, 2, 3, 4, 5, 6, 7, 8], reg [9, 10, 11, 12], some prt1) := by decide
/-- U18. -/
theorem test_prt_refused :
    refusal? (exec (.mediaObjectPrt prt1) { stateZ with vfe := { stateZ.vfe with primSinceFlush := true } })
      = some .flushMissing := by decide

/-- V-W1 and V-W2: the walks. -/
theorem test_walks :
    walkSeq walkW1 = [(⟨0, 0⟩, 0), (⟨1, 0⟩, 0), (⟨0, 1⟩, 0), (⟨1, 1⟩, 0)]
      ∧ walkSeq walkW2 = [(⟨0, 0⟩, 0), (⟨1, 0⟩, 0), (⟨0, 0⟩, 1), (⟨1, 0⟩, 1), (⟨2, 0⟩, 0), (⟨2, 0⟩, 1)] := by decide
/-- 95 B1: S1 codes 2 and 3 are -2 and -1, S9 code 3FEh is -2; A1's mid-loop unit, Color Count Minus One 5. -/
theorem test_walkValues :
    [0, 1, 2, 3].map (fun v => (pointS1 ⟨v, 0⟩).x) = [0, 1, -2, -1] ∧ (pointS ⟨0x3FE, 2⟩).pair = (-2, 2)
      ∧ (walkValues { walkW1 with localMidLoopUnit := ⟨0, 1⟩, colorCountMinusOne := 5 }).localMidLoopUnit = (0, 1)
      ∧ (walkValues { walkW1 with localMidLoopUnit := ⟨0, 1⟩, colorCountMinusOne := 5 }).colorCount = 6 := by decide
/-- V-W1: the first thread is requested, three positions are left. V-W4: Dual with Repel. -/
theorem test_walker :
    (next? (exec (.mediaObjectWalker walker1) stateZ)).map (fun t => (t.ts.rootQ.length, t.vfe.pool.head))
        = some (1, 1)
      ∧ (next? (exec (.mediaObjectWalker walker1) stateZ)).map (·.vfe.work)
        = some (some (.generate ⟨walkerControl walker1, [], [⟨1, 0, 0⟩, ⟨0, 1, 0⟩, ⟨1, 1, 0⟩], none⟩))
      ∧ refusal? (exec (.mediaObjectWalker { walker1 with walk := { walkW1 with repel := true, dualMode := true } })
          stateZ) = some .repelWithDual := by decide

/-! ### Thread spawn messages (B10): one outstanding root with FFTID 3, handle 5, scratch slot 2 -/

def rootT : Outstanding := ⟨3, 5, true, false, 2, none, false⟩

def stateT : State :=
  { stateZ with
    vfe := { stateZ.vfe with
             pool := ⟨(List.replicate 16 false).set 5 true, 6⟩, primSinceFlush := true, primSinceStateFlush := true }
    rob := { stateZ.rob with
             regs := stateZ.rob.regs ++ [(128, reg [0xC0]), (129, reg [0xD0]), (130, reg [0xE0]), (132, reg [0x5A])] }
    ts := { stateZ.ts with
            rootCount := 1, fftids := [3], scratch := [(2, 3)], outstanding := [rootT], childQ := [⟨0, false, 0⟩] } }

def noFields : MsgFields :=
  { eot := false, handle := 0, offset := 0, length := 0, interfaceDescriptorOffset := 0, color := 0, barrierId := 0
    fftid := 0 }

/-- V-M1's fields. -/
def fieldsM1 : MsgFields := { noFields with handle := 5, offset := 8, length := 2, interfaceDescriptorOffset := 1 }

/-- V-M1 with no older contents to see. -/
theorem test_spawnChildRoot :
    (next? (exec (.tsSpawnChildRoot fieldsM1) stateT)).map (fun t => (t.ts.childQ, t.ts.rootCount, t.td.queue.length))
      = some ([], 1, 1) := by decide
/-- V-M4, V-M13, V-M16. -/
theorem test_spawnChild_refused :
    refusal? (exec (.tsSpawnChildRoot { fieldsM1 with offset := 15, length := 1 }) stateT) = some .urbEntryOverrun
      ∧ refusal? (exec (.tsSpawnChildRoot { fieldsM1 with eot := true }) stateT) = some .spawnWithEot
      ∧ refusal? (exec (.tsSpawnChildRoot { fieldsM1 with interfaceDescriptorOffset := 2 }) stateT)
          = some .descriptorNotLoaded := by decide
/-- A handle that the pool does not have (log 24): the request is made, with as many registers. -/
theorem test_spawnChild_otherHandle :
    (next? (exec (.tsSpawnChildRoot { fieldsM1 with handle := 16 }) stateT)).map
        (fun t => (t.ts.childQ, t.td.queue.map (·.regs.length)))
      = (next? (exec (.tsSpawnChildRoot fieldsM1) stateT)).map (fun t => (t.ts.childQ, t.td.queue.map (·.regs.length)))
      ∧ (next? (exec (.tsSpawnChildRoot { fieldsM1 with handle := 16 }) stateT)).isSome = true := by decide
/-- R224, R202: a request already waits at TD for the one free slot; the child's request follows it. -/
theorem test_spawnChild_behind_request :
    (next? (tsTurn { stateT with
        ts := { stateT.ts with childQ := [⟨0x00001, false, encodeM0 fieldsM1⟩] }
        td := { stateT.td with freeSlots := 1, queue := [childTdReq stateT fieldsM1] } })).map
      (fun t => (t.ts.childQ, t.td.queue.length)) = some ([], 2) := by decide
/-- V-M2, V-M3: offset 15, length 0 is the last register of the entry. -/
theorem test_spawnChildChild :
    (next? (exec (.tsSpawnChildChild { fieldsM1 with offset := 15, length := 0 }) stateT)).map (·.td.queue.length)
      = some 1 := by decide

/-- A synchronized root request at the head of RootQ. -/
def srt : RootReq := ⟨{ objectControl object0 with threadSync := true }, ⟨0, 0, 0⟩, 6, 0, 0, 0⟩

def stateSrt : State := { stateT with ts := { stateT.ts with rootQ := [srt] } }

/-- V-M5's fields. -/
def fieldsM5 : MsgFields := { noFields with handle := 5, offset := 12, length := 1 }

/-- V-M5: both dequeued, the root thread requested; without a synchronized root nothing happens. -/
theorem test_spawnRootRoot :
    (next? (exec (.tsSpawnRootRoot fieldsM5) stateSrt)).map
        (fun t => (t.ts.rootQ, t.ts.childQ, t.ts.rootCount, t.td.queue.length)) = some ([], [], 2, 1)
      ∧ (next? (exec (.tsSpawnRootRoot fieldsM5) stateT)).map (fun t => (t.ts.childQ.length, t.td.queue)) = some (1, [])
      ∧ extraRegs stateSrt (some (urbRefOf fieldsM5)) = [reg [0x5A]] := by decide
/-- V-M6. -/
theorem test_spawnRootChild :
    (next? (exec (.tsSpawnRootChild fieldsM5) stateSrt)).map (fun t => (t.ts.rootQ, t.ts.rootCount)) = some ([], 2) := by
  decide

/-- V-M7: the normal end. -/
theorem test_derefUrbRoot_end :
    (next? (exec (.tsDerefUrbRoot { noFields with eot := true, handle := 5, fftid := 3 }) stateT)).map
        (fun t => (t.vfe.pool.referenced, t.ts.fftids, t.ts.scratch, t.ts.rootCount))
      = some (List.replicate 16 false, [], [], 0) := by decide
/-- V-M8, V-M15: the early dereference, and a second one. -/
theorem test_derefUrbRoot_early :
    (next? (exec (.tsDerefUrbRoot { noFields with handle := 5, fftid := 3 }) stateT)).map
        (fun t => (t.vfe.pool.referenced, t.ts.rootCount)) = some (List.replicate 16 false, 1)
      ∧ refusal? (exec (.tsDerefUrbRoot { noFields with eot := true, handle := 5, fftid := 3 })
          (nextOr (exec (.tsDerefUrbRoot { noFields with handle := 5, fftid := 3 }) stateT) stateT))
          = some .secondDereference := by decide
/-- V-M9. -/
theorem test_derefNourbRoot_end :
    (next? (exec (.tsDerefNourbRoot { noFields with eot := true, fftid := 3 }) stateT)).map
        (fun t => (t.vfe.pool.referenced, t.ts.fftids, t.ts.scratch, t.ts.rootCount))
      = some ((List.replicate 16 false).set 5 true, [], [], 0) := by decide
/-- V-M10. -/
theorem test_derefNourbRoot_nothing :
    (next? (exec (.tsDerefNourbRoot { noFields with fftid := 3 }) stateT)).map (fun t => (t.ts.outstanding, t.ts.childQ))
      = some ([rootT], []) := by decide
/-- V-M11. -/
theorem test_derefUrbChild :
    (next? (exec (.tsDerefUrbChild { noFields with eot := true }) stateT)).map
        (fun t => (t.vfe.pool, t.ts.outstanding, t.ts.childQ)) = some (stateT.vfe.pool, [rootT], []) := by decide
/-- V-M12. -/
theorem test_derefNourbChild :
    (next? (exec (.tsDerefNourbChild { noFields with eot := true }) stateT)).map
        (fun t => (t.vfe.pool, t.ts.outstanding, t.ts.childQ)) = some (stateT.vfe.pool, [rootT], []) := by decide

/-! ### R0 (B7, B8) and the scoreboard (B11) -/

/-- V-MO1 with FFTID 5 and slot 3; V-MO2's R0.1 and R0.0; a PRT has neither. -/
theorem test_r0 :
    r05 srt 5 3 = 0x00000C05 ∧ r04 (reg descriptor0) = 0x00000800 ∧ r03 srt (reg descriptor0) = 0x00000400
      ∧ r01 { srt with position := ⟨3, 5, 2⟩ } = 0x00050003
      ∧ r00 { srt with control := { srt.control with scoreboardMask := 0x81 }, handle := 4 } = 0x81000004
      ∧ r00 { srt with control := prtControl prt1 false, handle := 4 } = 0x00000004 := by decide

/-- V-MO1's and V-MO2's R0.2 (Barrier.Offset 0 by default), and descriptor 0 with an offset of its own (00 R8). -/
theorem test_r02 :
    r02Generic Config.defaults (reg descriptor0) 0 0 = 0x01000000
      ∧ r02Generic Config.defaults (reg descriptor1) 1 2 = 0x00000012
      ∧ r02Generic { Config.defaults with barrierOffsets := [(reg descriptor0, 5)] } (reg descriptor0) 0 0
          = 0x01050000 := by decide

def recordSb : VfeRecord :=
  { recordZ with
    scoreboardEnable := true, scoreboardMask := 7
    deltas := #v[⟨0xF, 0⟩, ⟨0, 0xF⟩, ⟨1, 0xF⟩, ⟨0, 0⟩, ⟨0, 0⟩, ⟨0, 0⟩, ⟨0, 0⟩, ⟨0, 0⟩] }

def sbReq (x y : BitVec 9) (mask : BitVec 8) : RootReq :=
  ⟨{ objectControl object0 with useScoreboard := true, scoreboardMask := mask }, ⟨x, y, 0⟩, 0, 0, 0, 0⟩

theorem test_scoreboard :
    dependencies recordSb (sbReq 2 3 7) = [⟨1, 3, 0⟩, ⟨2, 2, 0⟩, ⟨3, 2, 0⟩]
      ∧ dependenciesClear recordSb [⟨1, 3, 0⟩] (sbReq 2 3 7) = false
      ∧ dependenciesClear recordSb [⟨1, 3, 1⟩] (sbReq 2 3 7) = true
      ∧ dependencies recordSb (sbReq 2 3 4) = [⟨3, 2, 0⟩]
      ∧ dependencies { recordSb with scoreboardMask := 3 } (sbReq 2 3 7) = [⟨1, 3, 0⟩, ⟨2, 2, 0⟩] := by decide

/-! ### The machine -/

/-- A command placed from reset is run by the next step. -/
theorem test_step_command :
    (next? (step (State.reset.withFetchWord 32 0x70040000))).map (fun t => (t.cs.stream, t.vfe.work))
      = some ([], none) := by decide
/-- A message placed from reset is run by the next step. -/
theorem test_step_message :
    (next? (step (State.reset.withFetchWord 24 0x00012))).map (·.ts.childQ) = some [] := by decide

/-- A thread held at a SEND of a spawn message. -/
def stateSend : State :=
  { stateT with
    ts := { stateT.ts with childQ := [], fence := .vfeEntry }
    td := { queue := [], freeSlots := 59, nextThread := 1
            threads := [⟨0, .root 3 false, 0, [], ⟨false, false, false, ⟨false, false, false⟩⟩, .zero,
                         some ⟨1, false, 0⟩, false⟩] } }

/-- Acceptance clears the fence (B10, Fence). -/
theorem test_accept :
    (next? (busAccept 0 stateSend)).map (fun t => (t.ts.fence, t.ts.childQ.length)) = some (.none, 1) := by decide
/-- Every slot occupied, ChildQ full behind a spawn-child message. -/
def stateFull : State :=
  { stateSend with
    ts := { stateSend.ts with childQ := List.replicate 8 ⟨0x00001, false, encodeM0 fieldsM1⟩ }
    td := { stateSend.td with freeSlots := 0 } }

/-- R446, the full cycle: TS's turn takes the message off ChildQ (R202), whose entries are as many as before, and a
thread's held SEND waits. -/
theorem test_childQ_deadlock :
    childQDeadlocked stateFull = true
      ∧ (next? (tsTurn stateFull)).map (fun t => (t.ts.childQ.length, childQEntries t, childQDeadlocked t))
          = some (7, 8, true)
      ∧ (next? (busAccept 0 stateFull)).map (fun t => t.ts.childQ.length) = some 8 := by decide
/-- With one slot free TD can accept one of the waiting requests: there is room for the held message. -/
theorem test_childQ_room :
    (next? (busAccept 0 { stateFull with
        ts := { stateFull.ts with childQ := [] }
        td := { stateFull.td with freeSlots := 1, queue := List.replicate 8 (childTdReq stateT fieldsM1) } })).map
      (fun t => (t.ts.childQ.length, childQEntries t)) = some (1, 8) := by decide
/-- TD serves a request: a slot taken, the handle of a root without children dereferenced (B10, R205). -/
theorem test_serve :
    (tdTurn .one { stateT with
      td := { stateT.td with
              queue := [⟨.root ⟨3, 5, false, false, false, false⟩, 1, ⟨false, false, false, ⟨false, false, false⟩⟩, 0,
                         []⟩] } }).vfe.pool.referenced = List.replicate 16 false := by decide

/-! ### Witnesses: for each statement with premises, states and operands that meet them -/

open Sys2Proof.Certificates

theorem witness_DecodeEncodeRoundTrip : (Instr.mediaObject object0).wellFormed = true := by decide
theorem witness_CommandsFollowEachOther :
    (Instr.mediaGatewayState ⟨0, 1, 0, 4⟩).wellFormed = true
      ∧ encode (.mediaGatewayState ⟨0, 1, 0, 4⟩) = .command [0x70030000, 0x00010004] := by decide
theorem witness_UndefinedHeadersRefused :
    bits (dw [0x70050000] 0) 16 16 ∉
        ([0x7000, 0x7001, 0x7002, 0x7003, 0x7004, 0x7100, 0x7102, 0x7103] : List (BitVec 16))
      ∧ bits (dw [0x70050000] 0) 27 5 = 0b01110 ∧ bits (dw [0x61010000] 0) 27 5 ≠ 0b01110 := by decide

/-- A command in the stream and VFE's turn next. -/
def stateVfe : State :=
  { stateZ with
    cs := { stateZ.cs with stream := [.dword 0x70030000, .dword 0x00010004, .dword 0x70040000] }
    agenda := [.vfeTurn] }

theorem witness_VfeStepRunsCommand :
    stateVfe.agenda = [.vfeTurn] ∧ stateVfe.vfe.work = none ∧ stateVfe.ts.fence ≠ .vfeEntry
      ∧ stateVfe.ts.preemptPending = false
      ∧ decodeCommand (leadingDWords stateVfe.cs.stream) = .ok (.mediaGatewayState ⟨0, 1, 0, 4⟩, [0x70040000]) := by
  decide
theorem witness_CommandPointerMoves :
    (next? (exec (.mediaGatewayState ⟨0, 1, 0, 4⟩) stateVfe)).map (·.cs.stream) = some [.dword 0x70040000] := by decide
theorem witness_TsStepRunsMessage :
    ∃ s : State, s.agenda = [.tsTurn] ∧ s.ts.childQ = [⟨0x00011, false, encodeM0 fieldsM5⟩]
      ∧ decodeMessage ⟨0x00011, false, encodeM0 fieldsM5⟩ = .ok (.tsSpawnRootRoot fieldsM5)
      ∧ s.ts.rootQ = [srt] ∧ srt.control.threadSync = true ∧ MayStart s srt :=
  ⟨{ stateSrt with
      ts := { stateSrt.ts with childQ := [⟨0x00011, false, encodeM0 fieldsM5⟩] }, agenda := [.tsTurn] }, by
    decide +kernel⟩
theorem witness_IllegalCommandsRefused :
    (Instr.mediaStateFlush ⟨1, 0, 0⟩).isCommand = true ∧ (Instr.mediaStateFlush ⟨1, 0, 0⟩).wellFormed = false
      ∧ stateZ.cs.pipeline = .media
      ∧ ({ stateZ with cs := { stateZ.cs with pipeline := .threeD } } : State).cs.pipeline = .threeD := by decide

/-- First disjunct: no primitive command since the flush. -/
theorem witness_VfeStateWritesRecord :
    ∃ (c : MediaVfeState) (s : State), s.cs.pipeline = .media ∧ c.dwordLength = 6 ∧ InRange s.params c.fields
      ∧ InBudget s.params c.fields ∧ s.vfe.primSinceFlush = false ∧ NoHandleInUse s := ⟨⟨6, recordZ⟩, start, by decide⟩
/-- Second disjunct: only scoreboard fields change, after a MEDIA_STATE_FLUSH; and the extreme legal budget. -/
theorem witness_VfeStateWritesRecord_scoreboard :
    ∃ (c : MediaVfeState) (s : State), s.cs.pipeline = .media ∧ c.dwordLength = 6 ∧ InRange s.params c.fields
      ∧ InBudget s.params c.fields ∧ s.vfe.primSinceFlush = true ∧ s.vfe.primSinceStateFlush = false ∧ s.vfe.loaded = true
      ∧ sameButScoreboard s.vfe.record c.fields = true ∧ NoHandleInUse s :=
  ⟨⟨6, recordSb⟩, { stateZ with vfe := { stateZ.vfe with primSinceFlush := true } }, by decide⟩
theorem witness_ViolatedRequirementsRefused :
    ∃ s : State, s.cs.pipeline = .media ∧ s.vfe.primSinceFlush = true ∧ s.vfe.primSinceStateFlush = false
      ∧ InRange s.params { recordZ with numberOfUrbEntries := 1, urbEntryAllocationSize := 984 }
      ∧ ¬ InBudget s.params { recordZ with numberOfUrbEntries := 1, urbEntryAllocationSize := 984 }
      ∧ InRange s.params { recordZ with numberOfUrbEntries := 1, urbEntryAllocationSize := 983 }
      ∧ InBudget s.params { recordZ with numberOfUrbEntries := 1, urbEntryAllocationSize := 983 }
      ∧ sameButScoreboard s.vfe.record { recordZ with numberOfUrbEntries := 1, urbEntryAllocationSize := 983 } = false
      ∧ 15 < (16 : BitVec 8).toNat ∧ 60 < (61 : BitVec 8).toNat ∧ (0 : BitVec 8).toNat = 0 ∧ PrtReady s prt1 :=
  ⟨{ stateZ with vfe := { stateZ.vfe with primSinceFlush := true } }, by decide⟩
theorem witness_CurbeLoadFillsRob :
    ∃ (c : MediaCurbeLoad) (s : State), s.cs.pipeline = .media ∧ c.dwordLength = 2 ∧ s.vfe.loaded = true
      ∧ s.vfe.primSinceStateFlush = false ∧ LoadInBounds s c.totalLength c.startAddress
      ∧ c.totalLength.toNat / 32 = s.vfe.record.curbeAllocationSize.toNat
      ∧ s.vfe.record.curbeAllocationSize.toNat ≤ s.params.robRegisters - 33 ∧ Sparse.wf s.rob.regs = true :=
  ⟨⟨2, 0x100, 0x1000⟩, stateZ, by decide +kernel⟩
theorem witness_DescriptorLoadFillsTable :
    ∃ (c : MediaInterfaceDescriptorLoad) (s : State), s.cs.pipeline = .media ∧ c.dwordLength = 2
      ∧ s.vfe.primSinceStateFlush = false ∧ LoadInBounds s c.totalLength c.startAddress
      ∧ 32 ≤ c.totalLength.toNat ∧ c.totalLength.toNat ≤ 992 ∧ 31 ≤ s.params.robRegisters
      ∧ (∀ i, i < c.totalLength.toNat / 32 →
          descriptorMbz s.params.modeBits
              (regOfBytes (Memory.read s.mem) (s.cs.bases.dynamicState + c.startAddress.toNat + 32 * i)) = true
            ∧ descriptorInRange
                (regOfBytes (Memory.read s.mem) (s.cs.bases.dynamicState + c.startAddress.toNat + 32 * i)) = true)
      ∧ Sparse.wf s.rob.regs = true :=
  ⟨⟨2, 0x40, 0x2000⟩, stateZ, by decide +kernel⟩
theorem witness_GatewayStateWritesOneBarrier :
    ∃ (c : MediaGatewayState) (s : State), s.cs.pipeline = .media ∧ c.dwordLength = 0
      ∧ s.vfe.primSinceStateFlush = false ∧ c.barrierId.toNat ≤ 15 ∧ 1 ≤ c.threadCount.toNat
      ∧ c.threadCount.toNat ≤ 60 := ⟨⟨0, 15, 0xFF, 60⟩, stateZ, by decide⟩
/-- A scoreboard-only change, and the other state commands, after a primitive command without MEDIA_STATE_FLUSH. -/
theorem witness_ViolatedRequirementsRefused_stateFlush :
    ∃ s : State, s.cs.pipeline = .media ∧ s.vfe.loaded = true ∧ s.vfe.primSinceFlush = true
      ∧ s.vfe.primSinceStateFlush = true ∧ InRange s.params { recordZ with scoreboardEnable := true }
      ∧ InBudget s.params { recordZ with scoreboardEnable := true }
      ∧ sameButScoreboard s.vfe.record { recordZ with scoreboardEnable := true } = true
      ∧ (MediaCurbeLoad.mk 2 0x40 0x1000).dwordLength = 2 ∧ (MediaInterfaceDescriptorLoad.mk 2 0x40 0x2000).dwordLength = 2
      ∧ (MediaGatewayState.mk 0 1 0 4).dwordLength = 0 :=
  ⟨{ stateZ with vfe := { stateZ.vfe with primSinceFlush := true, primSinceStateFlush := true } }, by decide⟩
theorem witness_StateFlushCompletes :
    ∃ (c : MediaStateFlush) (s : State), s.cs.pipeline = .media ∧ c.dwordLength = 0 ∧ s.ts.rootQ = []
      ∧ s.ts.aside = [] ∧ (∀ q ∈ s.td.queue, q.kind = .child) ∧ c.threadCountWaterMark.toNat ≤ s.td.freeSlots
      ∧ ∀ b : Fin 16, c.barrierMask.getLsbD b.val = true → barrierClear s b = true :=
  ⟨⟨0, 60, 0xFFFF⟩, stateZ, by decide⟩
/-- One state for each of the four conditions; the watermark one above the free slots. -/
theorem witness_StateFlushWaits :
    stateSrt.ts.rootQ ≠ [] ∧ stateZ.td.freeSlots < (61 : BitVec 8).toNat
      ∧ (∃ q ∈ [rootTdReq stateSrt srt none], q.kind ≠ .child)
      ∧ barrierClear { stateZ with
          gateway := { stateZ.gateway with reportedClear := 0 }
          td := { stateZ.td with
                  threads := [⟨0, .child, 0, [reg [0, 0, 0x01000000]], ⟨false, false, false, ⟨false, false, false⟩⟩,
                               .zero, none, false⟩] } } 1 = false := by
  refine ⟨by decide, by decide, ⟨_, List.mem_singleton.mpr rfl, ?_⟩, by decide⟩
  intro h
  cases h
/-- A flush VFE holds: a request set aside, one slot too few, and every condition met at the boundary of 60 slots. -/
theorem witness_StateFlushWaits_held :
    (¬ StateFlushMayEnd { stateZ with ts := { stateZ.ts with aside := [⟨srt, none⟩] } } 60 0)
      ∧ (¬ StateFlushMayEnd stateZ 61 0) ∧ StateFlushMayEnd stateZ 60 0xFFFF
      ∧ ({ stateZ with vfe := { stateZ.vfe with work := some (.flush 60 0xFFFF) } } : State).vfe.work
          = some (.flush 60 0xFFFF) := by decide
theorem witness_FlushWaitsForPipeline :
    ∃ s : State, s.cs.stream = [.external .flush] ∧ s.ts.preemptPending = false ∧ s.ts.childQ ≠ []
      ∧ s.ts.rootCount ≠ 0 ∧ s.ts.rootQ ≠ [] ∧ (∃ b ∈ s.vfe.pool.referenced, b = true)
      ∧ s.vfe.primSinceFlush = true :=
  ⟨{ stateSrt with cs := { stateSrt.cs with stream := [.external .flush] } }, by decide⟩
/-- An MI_FLUSH that completes. -/
theorem witness_FlushWaitsForPipeline_completes :
    ∃ s : State, s.cs.stream = [.external .flush] ∧ s.ts.preemptPending = false ∧ s.vfe.work = none ∧ s.ts.rootQ = []
      ∧ s.ts.aside = [] ∧ s.ts.childQ = [] ∧ s.ts.rootCount = 0 ∧ s.ts.fence = .none
      ∧ (∀ b ∈ s.vfe.pool.referenced, b = false) ∧ s.td.queue = [] ∧ s.td.freeSlots = s.params.threadSlots
      ∧ s.vfe.primSinceFlush = true :=
  ⟨{ stateZ with
      cs := { stateZ.cs with stream := [.external .flush] }, vfe := { stateZ.vfe with primSinceFlush := true } }, by
    decide⟩

theorem witness_MediaObjectGeneratesRoot :
    ObjectReady stateZ object0 ∧ stateZ.vfe.pool.headFree = true
      ∧ stateZ.ts.rootQ.length < Config.rootQueueDepth := by decide
/-- With indirect data of one register. -/
theorem witness_MediaObjectPayload :
    ∃ (c : MediaObject) (s : State), ObjectReady s c ∧ s.vfe.pool.headFree = true ∧ Sparse.wf s.rob.regs = true
      ∧ c.indirectDataLength.toNat / 32 = 1
      ∧ urbEntryBase s.vfe.record (BitVec.ofNat 16 s.vfe.pool.head)
          + (ceil8 c.inlineData.length + c.indirectDataLength.toNat / 32) ≤ s.params.robRegisters :=
  ⟨{ object0 with indirectDataLength := 0x20, indirectDataStartAddress := 0x100 }, stateZ, by decide +kernel⟩
theorem witness_PrtGeneratesRoot :
    PrtReady stateZ prt1 ∧ stateZ.vfe.primSinceFlush = false ∧ stateZ.vfe.pool.headFree = true
      ∧ stateZ.ts.rootQ.length < Config.rootQueueDepth := by decide
theorem witness_ContextRestoreRestartsPrt :
    ∃ s : State, s.agenda = [.contextRestore prt1] ∧ PrtReady s prt1 ∧ s.vfe.work = none ∧ s.ts.fence ≠ .vfeEntry
      ∧ s.ts.preemptPending = false ∧ s.vfe.pool.headFree = true ∧ s.ts.rootQ.length < Config.rootQueueDepth :=
  ⟨{ stateZ with agenda := [.contextRestore prt1] }, by decide⟩
theorem witness_WalkerGeneratesFirstRoot :
    (WalkerReady stateZ { walker1 with walk := { walkW1 with globalResolution := ⟨0, 0⟩ } }
        ∧ walkSeq { walkW1 with globalResolution := ⟨0, 0⟩ } = [])
      ∧ WalkerReady stateZ walker1
      ∧ walkSeq walker1.walk = (⟨0, 0⟩, 0) :: [(⟨1, 0⟩, 0), (⟨0, 1⟩, 0), (⟨1, 1⟩, 0)]
      ∧ ceil8 walker1.inlineData.length ≤ stateZ.vfe.record.urbEntryAllocationSize.toNat
      ∧ stateZ.vfe.pool.headFree = true ∧ stateZ.ts.rootQ.length < Config.rootQueueDepth := by decide
/-- A pool whose head is referenced. -/
theorem witness_PrimitiveWaitsForHandle :
    ∃ s : State, s.vfe.pool.headFree = false ∧ ObjectReady s object0 ∧ PrtReady s prt1 ∧ s.vfe.primSinceFlush = false
      ∧ WalkerReady s walker1 ∧ walkSeq walker1.walk ≠ []
      ∧ ceil8 walker1.inlineData.length ≤ s.vfe.record.urbEntryAllocationSize.toNat :=
  ⟨{ stateZ with vfe := { stateZ.vfe with pool := ⟨List.replicate 16 true, 0⟩ } }, by decide⟩
/-- RootQ full, whatever its depth. -/
theorem witness_WalkGoesOn_full :
    ∃ (s : State) (g : Generation), s.vfe.work = some (.generate g) ∧ g.assembled = none ∧ g.todo = [⟨1, 0, 0⟩]
      ∧ s.vfe.pool.headFree = true ∧ Config.rootQueueDepth ≤ s.ts.rootQ.length :=
  ⟨{ stateZ with
      ts := { stateZ.ts with rootQ := List.replicate Config.rootQueueDepth srt }
      vfe := { stateZ.vfe with work := some (.generate ⟨walkerControl walker1, [], [⟨1, 0, 0⟩], none⟩) } },
    ⟨walkerControl walker1, [], [⟨1, 0, 0⟩], none⟩, rfl, rfl, rfl, rfl, by simp⟩
theorem witness_WalkGoesOn :
    (∃ (s : State) (g : Generation), s.vfe.work = some (.generate g) ∧ g.assembled = none ∧ g.todo = [⟨1, 0, 0⟩]
        ∧ s.vfe.pool.headFree = true ∧ s.ts.rootQ.length < Config.rootQueueDepth)
      ∧ ∃ (s : State) (g : Generation), s.vfe.work = some (.generate g) ∧ g.assembled = none ∧ g.todo = [⟨1, 0, 0⟩]
        ∧ s.vfe.pool.headFree = false :=
  ⟨⟨{ stateZ with
        vfe := { stateZ.vfe with work := some (.generate ⟨walkerControl walker1, [], [⟨1, 0, 0⟩], none⟩) } },
      ⟨walkerControl walker1, [], [⟨1, 0, 0⟩], none⟩, by decide⟩,
    ⟨{ stateZ with
        vfe := { stateZ.vfe with
                 pool := ⟨List.replicate 16 true, 3⟩
                 work := some (.generate ⟨walkerControl walker1, [], [⟨1, 0, 0⟩], none⟩) } },
      ⟨walkerControl walker1, [], [⟨1, 0, 0⟩], none⟩, by decide⟩⟩
/-- RootQ full, each primitive command ready. -/
def stateFullRootQ : State := { stateZ with ts := { stateZ.ts with rootQ := List.replicate Config.rootQueueDepth srt } }

theorem witness_PrimitiveWaitsForRootQ :
    stateFullRootQ.vfe.pool.headFree = true ∧ Config.rootQueueDepth ≤ stateFullRootQ.ts.rootQ.length
      ∧ ObjectReady stateFullRootQ object0 ∧ PrtReady stateFullRootQ prt1 ∧ stateFullRootQ.vfe.primSinceFlush = false
      ∧ WalkerReady stateFullRootQ walker1 ∧ walkSeq walker1.walk ≠ []
      ∧ ceil8 walker1.inlineData.length ≤ stateFullRootQ.vfe.record.urbEntryAllocationSize.toNat :=
  ⟨by decide, by simp [stateFullRootQ], by decide, by decide, by decide, by decide +kernel, by decide +kernel, by decide⟩
/-- A request that waits before a position still to come, with room and without. -/
theorem witness_PrimitiveWaitsForRootQ_held :
    (∃ (s : State) (g : Generation), s.vfe.work = some (.generate g) ∧ g.todo = [⟨1, 0, 0⟩] ∧ g.assembled = some srt
        ∧ s.ts.rootQ.length < Config.rootQueueDepth)
      ∧ ∃ (s : State) (g : Generation), s.vfe.work = some (.generate g) ∧ g.assembled = some srt
        ∧ Config.rootQueueDepth ≤ s.ts.rootQ.length :=
  ⟨⟨{ stateZ with vfe := { stateZ.vfe with work := some (.generate ⟨srt.control, [], [⟨1, 0, 0⟩], some srt⟩) } },
      ⟨srt.control, [], [⟨1, 0, 0⟩], some srt⟩, by decide⟩,
    ⟨{ stateFullRootQ with
        vfe := { stateFullRootQ.vfe with work := some (.generate ⟨srt.control, [], [], some srt⟩) } },
      ⟨srt.control, [], [], some srt⟩, rfl, rfl, by simp [stateFullRootQ]⟩⟩
theorem witness_RasterWalkCoversFrame :
    ∃ w : WalkerParams, w.dualMode = false ∧ w.repel = false ∧ w.middleLoopExtraSteps = 0 ∧ w.colorCountMinusOne = 0
      ∧ w.globalStart = ⟨0, 0⟩ ∧ w.localStart = ⟨0, 0⟩ ∧ w.localOuterLoopStride = ⟨0, 1⟩
      ∧ w.localInnerLoopUnit = ⟨1, 0⟩ ∧ w.globalOuterLoopStride = ⟨0, 511⟩ ∧ w.globalInnerLoopUnit = ⟨511, 0⟩
      ∧ w.blockResolution = w.globalResolution ∧ w.globalResolution = ⟨511, 511⟩ :=
  ⟨{ walkW1 with
      blockResolution := ⟨511, 511⟩, globalResolution := ⟨511, 511⟩, globalOuterLoopStride := ⟨0, 511⟩
      globalInnerLoopUnit := ⟨511, 0⟩ }, by decide⟩
theorem witness_ReferenceWalkStaysInFrame :
    axisAligned walkW2 = true ∧ ((⟨2, 0⟩, 1) : Point × BitVec 4) ∈ walkSeq walkW2 := by decide

theorem witness_SpawnChildRequestsChild :
    ∃ (m : MsgFields) (s : State), m.eot = false
      ∧ m.interfaceDescriptorOffset.toNat ≤ 30 ∧ m.interfaceDescriptorOffset.toNat < s.rob.idtCount
      ∧ m.offset.toNat + 1 + m.length.toNat ≤ s.vfe.record.urbEntryAllocationSize.toNat
      ∧ (childDescriptor s m).constantUrbReadOffset.toNat + (childDescriptor s m).constantUrbReadLength.toNat
          ≤ s.params.robRegisters - 33
      ∧ (childImage s m).length ≤ s.params.grfRegisters :=
  ⟨fieldsM1, stateT, by decide +kernel⟩
theorem witness_ChildImageContents :
    ∃ (m : MsgFields) (s : State), s.stale = []
      ∧ (descriptorOf (s.rob.read m.interfaceDescriptorOffset.toNat)).constantUrbReadOffset.toNat
          + (descriptorOf (s.rob.read m.interfaceDescriptorOffset.toNat)).constantUrbReadLength.toNat
          ≤ s.rob.curbeDefined
      ∧ m.interfaceDescriptorOffset.toNat < s.rob.idtCount ∧ s.vfe.pool.has m.handle = true :=
  ⟨fieldsM1, stateT, by decide +kernel⟩
theorem witness_SpawnWithEotRefused : ({ fieldsM1 with eot := true } : MsgFields).eot = true := rfl
theorem witness_SpawnRootStartsRoot :
    fieldsM5.eot = false ∧ stateSrt.ts.rootQ = srt :: [] ∧ srt.control.threadSync = true ∧ MayStart stateSrt srt
      ∧ NotSetAside stateSrt srt
      ∧ fieldsM5.offset.toNat + fieldsM5.length.toNat ≤ stateSrt.vfe.record.urbEntryAllocationSize.toNat
      ∧ RootFits stateSrt srt (some ⟨fieldsM5.handle, fieldsM5.offset, fieldsM5.length⟩) := by
  decide +kernel

/-- No root at all, and the root limit reached. -/
theorem witness_SpawnRootWaits :
    stateT.ts.rootQ = []
      ∧ ¬ MayStart { stateSrt with ts := { stateSrt.ts with rootCount := 60 } } srt := by decide
theorem witness_DerefUrbRootReleases :
    outstandingOf stateT.ts 3 = some rootT ∧ rootT.childrenPresent = true ∧ rootT.handle = 5
      ∧ rootT.dereferenced = false := by decide
theorem witness_WrongDereferenceRefused :
    outstandingOf stateT.ts 4 = none ∧ rootT.handle ≠ 6
      ∧ outstandingOf { stateT.ts with outstanding := [{ rootT with dereferenced := true }] } 3
          = some { rootT with dereferenced := true } := by decide
theorem witness_DerefNourbRootReleases : outstandingOf stateT.ts 3 = some rootT := by decide
/-- A root request at the head of RootQ with ChildQ empty: one that may start, one past the limit, one that the
non-stalling scoreboard sets aside. -/
theorem witness_RootQServed :
    (∃ s : State, s.ts.childQ = [] ∧ s.ts.rootQ = [sbReq 2 3 7] ∧ (sbReq 2 3 7).control.threadSync = false
        ∧ MayStart s (sbReq 2 3 7) ∧ NotSetAside s (sbReq 2 3 7) ∧ RootFits s (sbReq 2 3 7) none)
      ∧ (∃ s : State, s.ts.childQ = [] ∧ s.ts.rootQ = [sbReq 2 3 7] ∧ ¬ MayStart s (sbReq 2 3 7))
      ∧ ∃ s : State, s.ts.childQ = [] ∧ s.ts.rootQ = [sbReq 2 3 7] ∧ MayStart s (sbReq 2 3 7)
          ∧ s.vfe.record.scoreboardType = true
          ∧ dependenciesClear s.vfe.record s.ts.tracking (sbReq 2 3 7) = false :=
  ⟨⟨{ stateT with ts := { stateT.ts with childQ := [], rootQ := [sbReq 2 3 7] } }, by decide +kernel⟩,
    ⟨{ stateT with ts := { stateT.ts with childQ := [], rootQ := [sbReq 2 3 7], rootCount := 60 } }, by decide⟩,
    ⟨{ stateT with
        vfe := { stateT.vfe with record := { recordSb with scoreboardType := true } }
        ts := { stateT.ts with childQ := [], rootQ := [sbReq 2 3 7], tracking := [⟨1, 3, 0⟩] } }, by decide +kernel⟩⟩
/-- Behind a spawn-root message; a request set aside that may start, and one whose dependency is tracked. -/
theorem witness_RootQServed_held :
    (∃ (s : State) (m : SendMsg), s.ts.rootQ = [sbReq 2 3 7] ∧ s.ts.childQ = [m] ∧ isSpawnRoot m = true ∧ m.eot = false
        ∧ (sbReq 2 3 7).control.threadSync = false ∧ MayStart s (sbReq 2 3 7) ∧ NotSetAside s (sbReq 2 3 7)
        ∧ RootFits s (sbReq 2 3 7) none)
      ∧ (∃ s : State, s.ts.aside[0]? = some ⟨sbReq 2 3 7, none⟩ ∧ MayStart s (sbReq 2 3 7)
          ∧ dependenciesClear s.vfe.record s.ts.tracking (sbReq 2 3 7) = true ∧ RootFits s (sbReq 2 3 7) none)
      ∧ ∃ s : State, s.ts.aside[0]? = some ⟨sbReq 2 3 7, none⟩
          ∧ dependenciesClear s.vfe.record s.ts.tracking (sbReq 2 3 7) = false :=
  ⟨⟨{ stateT with ts := { stateT.ts with childQ := [⟨0x00011, false, 0⟩], rootQ := [sbReq 2 3 7] } },
      ⟨0x00011, false, 0⟩, by decide +kernel⟩,
    ⟨{ stateT with ts := { stateT.ts with aside := [⟨sbReq 2 3 7, none⟩] } }, by decide +kernel⟩,
    ⟨{ stateT with
        vfe := { stateT.vfe with record := { recordSb with scoreboardType := true } }
        ts := { stateT.ts with aside := [⟨sbReq 2 3 7, none⟩], tracking := [⟨1, 3, 0⟩] } }, by decide⟩⟩
theorem witness_GenericHeaderFields : srt.control.isPrt = false := rfl
theorem witness_PrtHeaderFields : (prtControl prt1 true).isPrt = true := rfl
/-- The step of `test_spawnRootRoot` raises RootCount. -/
theorem witness_RootLimitKept :
    (next? (step { stateSrt with
        ts := { stateSrt.ts with childQ := [⟨0x00011, false, encodeM0 fieldsM5⟩] }, agenda := [.tsTurn] })).map
      (·.ts.rootCount) = some 2 ∧ stateSrt.ts.rootCount = 1 := by decide +kernel
theorem witness_ThreadDispatcherServes :
    ∃ (s : State) (q : TdReq), s.td.queue = [q] ∧ 0 < s.td.freeSlots ∧ q.halfSlice = 2 :=
  ⟨{ stateT with td := { stateT.td with queue := [{ rootTdReq stateSrt srt none with halfSlice := 2 }] } },
    { rootTdReq stateSrt srt none with halfSlice := 2 }, rfl, by decide, rfl⟩
theorem witness_ThreadStartsAtKernel : childDescriptor stateT fieldsM1 = descriptorOf (reg descriptor1) := by
  decide +kernel
/-- With room, and without it. -/
theorem witness_MessageAccepted :
    (threadOf stateSend.td 0).map (·.pending) = some (some ⟨1, false, 0⟩)
      ∧ stateSend.ts.childQ.length + unacceptedChildren stateSend.td < stateSend.params.childQueueDepth
      ∧ messageMbz ⟨1, false, 0⟩ = true
      ∧ (threadOf stateFull.td 0).map (·.pending) = some (some ⟨1, false, 0⟩)
      ∧ stateFull.params.childQueueDepth ≤ stateFull.ts.childQ.length + unacceptedChildren stateFull.td := by decide
theorem witness_FenceClearedOnlyBySpawn :
    (next? (step { stateSend with agenda := [.busAccept 0] })).map (·.ts.fence) = some .none
      ∧ stateSend.ts.fence ≠ .none := by decide
theorem witness_PipelineWritesNoMemory :
    (next? (step { stateSend with agenda := [.busAccept 0] })).isSome = true := by decide
/-- A step that changes the record, and one that changes a barrier. -/
theorem witness_RecordWrittenOnlyByItsCommand :
    (next? (step { start with
        cs := { start.cs with stream := [0x70000006, 0, 0x003B1000, 0, 0x00100008, 0, 0, 0].map .dword }
        agenda := [.vfeTurn] })).map (·.vfe.record) = some recordZ
      ∧ start.vfe.record ≠ recordZ
      ∧ (next? (step stateVfe)).map (·.gateway.barriers) = some (stateVfe.gateway.barriers.set 1 ⟨0, 4⟩) := by
  decide +kernel
theorem witness_MemoryReadAfterWrite : Memory.wf memB0 = true := by decide +kernel
/-- The invariants hold in a state with an outstanding root and a thread, and a step leads on from it. -/
theorem witness_invariants :
    storesCanonical stateSend = true
      ∧ stateSend.td.freeSlots + stateSend.td.threads.length = 60
      ∧ stateSend.ts.rootCount = stateSend.ts.outstanding.length
      ∧ stateSend.ts.fftids = stateSend.ts.outstanding.map (·.fftid)
      ∧ stateSend.ts.scratch = stateSend.ts.outstanding.map (fun o => (o.scratchSlot, o.fftid))
      ∧ InRange stateSend.params stateSend.vfe.record ∧ InBudget stateSend.params stateSend.vfe.record
      ∧ stateSend.vfe.pool.referenced.length = stateSend.vfe.record.numberOfUrbEntries.toNat
      ∧ (next? (step { stateSend with agenda := [.busAccept 0] })).isSome = true := by decide +kernel
theorem witness_QueuesStayBounded :
    queuesBounded stateSrt ∧ childQEntries stateFull = stateFull.params.childQueueDepth :=
  ⟨⟨by decide, by decide⟩, by decide⟩
theorem witness_PreemptSentWhenReady :
    (next? (step { stateZ with
        ts := { stateZ.ts with preemptPending := true }, agenda := [.tsPreempt] })).map (·.ts.preemptSent) = some true
      ∧ stateZ.ts.preemptSent = false := by decide
/-- A switch that completes, and one for which the signal has not been sent. -/
theorem witness_PreemptSentWhenReady_switch :
    (∃ s : State, s.agenda = [.switchComplete []] ∧ s.ts.preemptPending = true ∧ s.ts.preemptSent = true
        ∧ s.vfe.work = none ∧ s.ts.rootQ = [] ∧ s.ts.aside = [] ∧ s.ts.childQ = [] ∧ s.ts.rootCount = 0
        ∧ ∀ b ∈ s.vfe.pool.referenced, b = false)
      ∧ ∃ s : State, s.agenda = [.switchComplete []] ∧ s.ts.preemptSent = false :=
  ⟨⟨{ stateZ with
      ts := { stateZ.ts with preemptPending := true, preemptSent := true }, agenda := [.switchComplete []] }, by decide⟩,
    ⟨{ stateZ with agenda := [.switchComplete []] }, rfl, rfl⟩⟩

/-! ### Data formats (B12) -/

open Macroblock in
theorem test_formats :
    coefficientDWord ⟨0xFFFD, 11, true⟩ = 0xFFFD0017 ∧ coefficientDWord ⟨100, 63, true⟩ = 0x0064007F
      ∧ (mvfs false 5, lmvY false 5) = (1, 1) ∧ (mvfs true (-3), lmvY true (-3)) = (0, 1)
      ∧ (mvfs false (-6), lmvY false (-6)) = (0, -2)
      ∧ [7, 6, 5, 3, 0, -1, -2, -5].map chroma1 = [4, 3, 2, 2, 0, 0, -1, -2]
      ∧ chromaMv4 [⟨6, 2⟩, ⟨9, -3⟩] = some ⟨4, 0⟩
      ∧ truncate 16 1000 (-70) = -62 ∧ truncate 16 1000 (-64) = -64
      ∧ packedCoefficientOffset 2 false = 8 ∧ packedCoefficientOffset 8 true = 24 := by decide
open Macroblock in
/-- Figure 1-9 against the place of each block; the name I_16x16_1_2_0 of MbType 10; Table 1-15, MbType 15. -/
theorem test_blocks :
    ((List.range 16).all fun b =>
        ((figure19.getD (block4x4Place b).2 []).getD (block4x4Place b).1 99) == b) = true
      ∧ intra16x16Name 10 = some (1, 2, 0)
      ∧ (List.range 4).map (subMbPredModeOf 15) = [some 1, some 2, some 1, some 2]
      ∧ subMbShapeOf 15 = some 0 ∧ subMbShapeOf 22 = none ∧ subMbShapeOf 0 = none
      ∧ [0, 10, 25, 26].map intraType = [some .nxn, some (.sixteen 1 2 0), some .pcm, none]
      ∧ ((List.range 4).all fun b =>
          ((figure110.getD (quarterPlace b).2 []).getD (quarterPlace b).1 99) == b) = true
      ∧ subMbTypeB .inferred = some (3, none) ∧ subMbTypeP .inferred = none := by decide
open Macroblock in
/-- Tables 1-16 to 1-20: counts, places and the MBZ cells. -/
theorem test_motion :
    [MbMvState.p0, .p1, .p2, .p3, .b0, .b1, .b2, .b3].map MbMvState.maxMvs = [0, 1, 4, 16, 0, 2, 8, 32]
      ∧ [MbMvState.p0, .p1, .p2, .p3, .b3].map (fun m => m.combined.size) = [0, 2, 8, 16, 32]
      ∧ mvSizeOf false 22 #v[0, 3, 0, 0] #v[0, 0, 2, 1] = some 32 ∧ mvSizeOf false 22 #v[0, 0, 1, 0] #v[1, 0, 0, 0] = some 16
      ∧ extractMvs 22 1 2 = some (6, 32) ∧ extractMvs 12 0 0 = some (3, 3)
      ∧ weightBlock ((List.range 24).map (BitVec.ofNat 32)) 8 = (List.range' 8 16).map (BitVec.ofNat 32)
      ∧ mvBlockMbz [1, 2, 0, 4] 2 = false ∧ intraModesMbz .intra16x16 0x00000012 0 = false
      ∧ weightOf 0 [0x04030201, 0, 0, 0] 2 0 .y true = some (.explicit ⟨4, 3⟩)
      ∧ weightOf 2 [0xFFFE0001, 0, 0, 0] 2 0 .y true = some (.implicit (-2))
      ∧ weightOf 0 [0x04030201, 0, 0, 0] 2 1 .y true = none ∧ weightBlockMbz [0, 0, 0, 8] 2 = false
      ∧ replicatedPair 22 (0, 0) (0, 0) (fun _ => ([none, some (5 : Int)], [none])) 1 = some (5, 5) := by decide
open Macroblock in
/-- Two transform blocks, 4x4 subblock 0 of Y0 and an 8x8 Cr5; data that ends inside a block; an index outside a 4x4. -/
theorem test_residual :
    residualData (fun b => if b = .y0 then .four4x4 else .one8x8) (fun b n => (b == .y0 || b == .cr5) && n == 0)
        [0x00010000, 0xFFFD0017, 0x0064007F]
        = some [((.y0, 0), [⟨1, 0, false⟩, ⟨0xFFFD, 11, true⟩]), ((.cr5, 0), [⟨100, 63, true⟩])]
      ∧ transformBlocks [0x00010000] = none
      ∧ residualData (fun _ => .four4x4) (fun b n => b == .y0 && n == 0) [0x0064007F] = none := by decide
open Macroblock in
/-- R363, R366: an intra macroblock with CBP 0 has six blocks, of one zero coefficient each; Cr without one is refused; of a
macroblock that is not intra only Y0, whose CBP bit is set, has data. -/
theorem test_vc1Residual :
    ((vc1ResidualData [0x00010000, 0, 0, 0, 0, 0, 0, 0x04040404, 0x00000404] (List.replicate 6 1)).map
        fun r => r.map fun e => e.1.1) = some blockSequence
      ∧ vc1ResidualData [0x00010000, 0, 0, 0, 0, 0, 0, 0x04040404, 0x00000004] (List.replicate 5 1) = none
      ∧ vc1ResidualData [0x02000800, 0, 0, 0, 0, 0, 0, 0x04040404, 0x00000404] [0x00070001]
          = some [((.y0, 0), [⟨7, 0, true⟩])] := by decide
open Macroblock in
/-- R366, R363: two 4x8 with the second present; bit 15 is Y0; 4MV with a backward vector is not consistent. -/
theorem test_vc1 :
    subblockDivision 0b00001010 = .two4x8 ∧ (subblockPresent 0b00001010 0, subblockPresent 0b00001010 1) = (false, true)
      ∧ (vc1DWord0Of 0x00008000).lumaIntra 0 = true ∧ (vc1DWord0Of 0x20000000).mvFieldSelect.ofBlock 1 = true
      ∧ vc1DWord1Mbz 0x04000000 = false
      ∧ interVectors (fun b => b == 1) (fun b => ⟨b, 0⟩) = [⟨0, 0⟩, ⟨2, 0⟩, ⟨3, 0⟩] := by decide

end Sys2Proof.Tests
end

section
/-! SUPPORT. What one step can do, said once: `Move s e t` lists the updates by which event `e` leads from `s` to `t`,
and `step_moves` that every step is one of them. An invariant is then one case analysis over `Move`. -/

namespace Sys2Proof.Proofs

open Sys2Proof Sys2Proof.Machine Sys2Proof.Laws

/-- What event `e` can turn the state `s` into, with the guards that invariants rest on. -/
inductive Move (s : State) : Event → State → Prop
  | wait (e : Event) : Move s e s
  /-- The Command Streamer's own commands, a delivery. -/
  | stream (e : Event) (cs : CommandStreamer) : Move s e { s with cs := cs }
  | csFlush : Move s .csTurn
      { s.dropStream 1 with
        vfe := { s.vfe with primSinceFlush := false, primSinceStateFlush := false }, stale := [] }
  | vfeState {c : MediaVfeState} {rest : List DWord}
      (decoded : decodeCommand (leadingDWords s.cs.stream) = .ok (.mediaVfeState c, rest))
      (inRange : vfeRecordInRange s.params c.fields = true) (inBudget : vfeRecordInBudget s.params c.fields = true) :
      Move s .vfeTurn ((writeVfeRecord s c.fields).takeCommand c.dwordLength)
  | curbeLoad (regs : List Reg) (n : BitVec 16) : Move s .vfeTurn ((loadCurbe s regs).takeCommand n)
  | descriptorLoad (regs : List Reg) (n : BitVec 16) : Move s .vfeTurn ((loadDescriptors s regs).takeCommand n)
  | gatewayState {c : MediaGatewayState} {rest : List DWord}
      (decoded : decodeCommand (leadingDWords s.cs.stream) = .ok (.mediaGatewayState c, rest)) :
      Move s .vfeTurn ((writeBarrier s c.barrierId.toNat ⟨c.byte, c.threadCount⟩).takeCommand c.dwordLength)
  /-- A MEDIA_STATE_FLUSH begins or goes on. -/
  | stateFlush (waterMark : BitVec 8) (mask : BitVec 16) (cs : CommandStreamer) :
      Move s .vfeTurn (stateFlushStep waterMark mask { s with cs := cs })
  /-- A primitive command begins or goes on; `f`, `f'` and `l` are VFE's notes. -/
  | generate (e : Event) (g : Generation) (cs : CommandStreamer) (f f' : Bool) (l : Option MediaObjectPrt) :
      Move s e (generateStep g
        { s with cs := cs, vfe := { s.vfe with primSinceFlush := f, primSinceStateFlush := f', lastPrt := l } })
  | popChildQ : Move s .tsTurn s.popChildQ
  | startChild (m : MsgFields) (waiting : s.ts.childQ ≠ []) : Move s .tsTurn (startChild s m)
  /-- The non-stalling scoreboard keeps a request that has left its queues. -/
  | setAside {rq : List RootReq} {cq : List SendMsg} (a : AsideReq) (root : rq.Sublist s.ts.rootQ)
      (child : cq.Sublist s.ts.childQ) :
      Move s .tsTurn { s with ts := { s.ts with rootQ := rq, childQ := cq, aside := s.ts.aside ++ [a] } }
  /-- A request that has left its queues is dispatched. -/
  | startRoot (e : Event) {rq : List RootReq} {aside : List AsideReq} {cq : List SendMsg} (r : RootReq)
      (x : Option UrbRef) (root : rq.Sublist s.ts.rootQ) (child : cq.Sublist s.ts.childQ) (room : rootRoom s = true) :
      Move s e (startRoot { s with ts := { s.ts with rootQ := rq, aside := aside, childQ := cq } } r x)
  | derefUrb {m : MsgFields} {o : Outstanding} (found : outstandingOf s.ts m.fftid = some o) :
      Move s .tsTurn
        (({ s.popChildQ with ts := s.popChildQ.ts.markDereferenced m.fftid }.dereference m.handle).endRoot m.eot o)
  | derefNourb {m : MsgFields} {o : Outstanding} (found : outstandingOf s.ts m.fftid = some o) :
      Move s .tsTurn (s.popChildQ.endRoot m.eot o)
  | preemptSent : Move s .tsPreempt { s with ts := { s.ts with preemptSent := true } }
  | serve (h : HalfSlice) {q : TdReq} {queue : List TdReq} (first : s.td.queue = q :: queue)
      (free : 0 < s.td.freeSlots) : Move s (.tdTurn h) (serveTd q h s)
  | accept {id : Nat} {th : Thread} {m : SendMsg} (found : threadOf s.td id = some th) (held : th.pending = some m)
      (room : childQEntries s < s.params.childQueueDepth) : Move s (.busAccept id) (acceptMessage th m s)
  | retire {id : Nat} {th : Thread} (found : threadOf s.td id = some th) (ended : th.ended = true) :
      Move s (.threadRetire id)
        { s with td := { s.td with threads := s.td.threads.filter (·.id != id), freeSlots := s.td.freeSlots + 1 } }
  /-- A thread comes to a SEND, or ends through the Gateway. -/
  | thread (e : Event) (th : Thread) : Move s e { s with td := s.td.setThread th }
  | urbWrite (handle : BitVec 16) (offset : Nat) (v : Reg) : Move s (.urbWrite handle offset v)
      { s with rob := s.rob.write s.params.robRegisters (urbEntryBase s.vfe.record handle + offset) v }
  | memWrite (a : Nat) (bytes : List Byte) :
      Move s (.memWrite a bytes) { s with mem := Memory.write s.mem a bytes }
  | gatewayTick (r g : Nat) : Move s (.gatewayTick r g)
      { s with gateway := { s.gateway with relative := s.gateway.relative + r
                                           globalTime := s.gateway.globalTime + g } }
  | barrierReport (clear : BitVec 16) : Move s (.barrierReport clear)
      { s with gateway := { s.gateway with reportedClear := clear } }
  | contextSwitch : Move s .contextSwitch { s with ts := { s.ts with preemptPending := true } }
  | switchComplete (stream : List StreamItem) : Move s (.switchComplete stream)
      { s with
        cs := { s.cs with stream := stream }
        vfe := { s.vfe with lastPrt := none }
        ts := { s.ts with preemptPending := false, preemptSent := false, fence := .none } }

/-! ### Each agent's turn is a move -/

/-- A wait, as the turns answer it. -/
theorem Move.of_wait {s t : State} (e : Event) (h : (.next s : Result) = .next t) : Move s e t := by
  cases h
  exact .wait e

theorem rejected_moves {s t : State} {r : Reject} (e : Event) (h : rejected r s = .next t) : Move s e t := by
  unfold rejected at h
  split at h
  · cases h
  · exact .of_wait e h

theorem csTurn_moves {s t : State} (h : csTurn s = .next t) : Move s .csTurn t := by
  unfold csTurn at h
  split at h
  · exact .of_wait _ h
  split at h
  next c _ _ =>
    cases c <;> simp only [csCommand, requireFlushed, require_next, Host.Outcome.next.injEq] at h
    case flush =>
      unfold csFlush at h
      split at h
      · exact h ▸ .csFlush
      · exact h ▸ .wait _
    case arbitration => exact h ▸ .stream _ _
    all_goals exact h.2 ▸ .stream _ _
  next => exact .of_wait _ h

theorem vfeTake_moves {s t : State} (h : vfeTake s = .next t) : Move s .vfeTurn t := by
  unfold vfeTake at h
  split at h
  next i rest hd =>
    obtain ⟨c, rfl, hr, hb, rfl⟩ | ⟨regs, n, rfl⟩ | ⟨regs, n, rfl⟩ | ⟨c, rfl, rfl⟩ | ⟨w, m, n, rfl⟩ | ⟨g, cs, l, rfl⟩ :=
      execCommand_next (decodeCommand_isCommand hd) h
    · exact .vfeState hd hr hb
    · exact .curbeLoad regs n
    · exact .descriptorLoad regs n
    · exact .gatewayState hd
    · exact .stateFlush w m _
    · exact .generate _ g cs true true l
  next => exact rejected_moves _ h

theorem vfeTurn_moves {s t : State} (h : vfeTurn s = .next t) : Move s .vfeTurn t := by
  unfold vfeTurn at h
  split at h
  next w _ =>
    cases h
    cases w with
    | generate g => exact .generate _ g s.cs s.vfe.primSinceFlush s.vfe.primSinceStateFlush s.vfe.lastPrt
    | flush waterMark mask => exact .stateFlush waterMark mask s.cs
  next =>
    split at h
    · exact .of_wait _ h
    · exact vfeTake_moves h

/-- A request that may go and has left its queues is set aside or dispatched. -/
theorem releaseRoot_moves {s t : State} {rq : List RootReq} {cq : List SendMsg} {r : RootReq} {x : Option UrbRef}
    (root : rq.Sublist s.ts.rootQ) (child : cq.Sublist s.ts.childQ) (eligible : rootEligible s r = true)
    (h : releaseRoot { s with ts := { s.ts with rootQ := rq, childQ := cq } } r x = .next t) : Move s .tsTurn t := by
  have room : rootRoom s = true := (Bool.and_eq_true_iff.mp eligible).1
  obtain ⟨-, rfl⟩ | ⟨-, rfl⟩ := releaseRoot_next h
  · exact .setAside _ root child
  · exact .startRoot _ r x root child room

theorem serveRootQ_moves {s t : State} (h : serveRootQ s = .next t) : Move s .tsTurn t := by
  unfold serveRootQ at h
  split at h
  · exact .of_wait _ h
  split at h
  next r _ _ hc =>
    exact releaseRoot_moves (List.tail_sublist _) (List.Sublist.refl _) (Bool.and_eq_true_iff.mp hc).2 h
  next => exact .of_wait _ h

theorem serveMessage_moves {s t : State} {m : SendMsg} (hq : s.ts.childQ ≠ []) (h : serveMessage m s = .next t) :
    Move s .tsTurn t := by
  unfold serveMessage at h
  split at h
  next i hd =>
    obtain rfl | rfl | ⟨m, rfl⟩ | ⟨r, x, hw, h⟩ | ⟨m, o, ho, rfl | rfl⟩ :=
      execMessage_next (decodeMessage_isMessage hd) h
    · exact .wait _
    · exact .popChildQ
    · exact .startChild m hq
    · obtain ⟨-, -, eligible⟩ := waitingSynchronizedRoot_some hw
      exact releaseRoot_moves (List.tail_sublist _) (List.tail_sublist _) eligible h
    · exact .derefUrb ho
    · exact .derefNourb ho
  next => exact rejected_moves _ h

theorem tsTurn_moves {s t : State} (h : tsTurn s = .next t) : Move s .tsTurn t := by
  obtain h | ⟨m, hm, h⟩ := tsTurn_next h
  · exact serveRootQ_moves h
  · exact serveMessage_moves (by rintro hq; simp [hq] at hm) h

theorem tsAside_moves {s t : State} {i : Nat} (h : tsAside i s = .next t) : Move s (.tsAside i) t := by
  unfold tsAside at h
  split at h
  · exact .of_wait _ h
  split at h
  next hc =>
    obtain ⟨-, -, rfl⟩ := dispatchRoot_next h
    exact .startRoot _ _ _ (List.Sublist.refl _) (List.Sublist.refl _) (Bool.and_eq_true_iff.mp hc).1
  next => exact .of_wait _ h

theorem tdTurn_moves (s : State) (h : HalfSlice) : Move s (.tdTurn h) (tdTurn h s) := by
  unfold tdTurn
  split
  · exact .wait _
  next q queue hq =>
    split
    next hc =>
      simp only [Bool.and_eq_true, decide_eq_true_eq] at hc
      exact .serve h hq hc.1
    next => exact .wait _

theorem busAccept_moves {s t : State} {id : Nat} (h : busAccept id s = .next t) : Move s (.busAccept id) t := by
  unfold busAccept at h
  split at h
  · exact .of_wait _ h
  next th hth =>
    split at h
    · exact .of_wait _ h
    next m hm =>
      split at h
      next room =>
        obtain ⟨-, h⟩ := require_next.mp h
        cases h
        exact .accept hth hm room
      next => exact .of_wait _ h

theorem threadRetire_moves (s : State) (id : Nat) : Move s (.threadRetire id) (threadRetire id s) := by
  unfold threadRetire
  split
  · exact .wait _
  next th hth =>
    split
    next ended => exact .retire hth ended
    next => exact .wait _

theorem threadSend_moves (s : State) (id : Nat) (m : SendMsg) : Move s (.threadSend id m) (threadSend id m s) := by
  unfold threadSend
  split
  · exact .wait _
  split
  · exact .wait _
  · exact .thread _ _

theorem gatewayEot_moves {s t : State} {id : Nat} (h : gatewayEot id s = .next t) : Move s (.gatewayEot id) t := by
  unfold gatewayEot at h
  split at h
  · exact .of_wait _ h
  split at h
  · exact .of_wait _ h
  split at h
  · cases h
    exact .thread _ _
  · cases h

theorem contextRestore_moves {s t : State} {prt : MediaObjectPrt} (h : contextRestore prt s = .next t) :
    Move s (.contextRestore prt) t := by
  unfold contextRestore at h
  split at h
  · exact .of_wait _ h
  · simp only [requirePrt, requireDescriptor, generatePrt, startGeneration, require_next,
      Host.Outcome.next.injEq] at h
    obtain ⟨-, -, -, -, -, -, rfl⟩ := h
    exact .generate _ _ s.cs true true (some prt)

/-- Whatever an event does is a move. -/
theorem handle_moves {e : Event} {s t : State} (h : handle e s = .next t) : Move s e t := by
  cases e <;> simp only [handle, Host.Outcome.next.injEq] at h
  case csTurn => exact csTurn_moves h
  case vfeTurn => exact vfeTurn_moves h
  case tsTurn => exact tsTurn_moves h
  case tsAside i => exact tsAside_moves h
  case tsPreempt =>
    unfold tsPreempt at h
    split at h
    · exact h ▸ .preemptSent
    · exact h ▸ .wait _
  case tdTurn half => exact h ▸ tdTurn_moves s half
  case busAccept id => exact busAccept_moves h
  case threadRetire id => exact h ▸ threadRetire_moves s id
  case deliver => exact h ▸ .stream _ _
  case threadSend id m => exact h ▸ threadSend_moves s id m
  case gatewayEot id => exact gatewayEot_moves h
  case urbWrite =>
    unfold urbWrite at h
    split at h
    · exact h ▸ .urbWrite _ _ _
    · exact h ▸ .wait _
  case memWrite a bytes => exact h ▸ .memWrite a bytes
  case gatewayTick r g => exact h ▸ .gatewayTick r g
  case barrierReport clear => exact h ▸ .barrierReport clear
  case contextSwitch =>
    unfold contextSwitch at h
    split at h
    · exact h ▸ .contextSwitch
    · exact h ▸ .wait _
  case switchComplete stream =>
    unfold switchComplete at h
    split at h
    · exact h ▸ .switchComplete stream
    · exact h ▸ .wait _
  case contextRestore prt => exact contextRestore_moves h

/-! ### A step is a move -/

/-- Taking the next event touches the agenda and the counter of free values alone. -/
theorem nextEvent_state (s : State) : ∃ agenda count,
    (nextEvent s).2 = { s with agenda := agenda, freeCount := count } := by
  unfold nextEvent
  split
  · exact ⟨_, s.freeCount, rfl⟩
  · exact ⟨s.agenda, _, rfl⟩

/-- A step is a move of the next event, from a state that differs in the agenda and the counter alone. -/
theorem step_moves {s t : State} (h : step s = .next t) : ∃ agenda count,
    Move { s with agenda := agenda, freeCount := count } (nextEvent s).1 t := by
  obtain ⟨agenda, count, hs⟩ := nextEvent_state s
  exact ⟨agenda, count, hs ▸ handle_moves h⟩

end Sys2Proof.Proofs
end

section
/-! SUPPORT. The invariants of the state, each by one case analysis over `Move`, and the statements they settle. -/

namespace Sys2Proof.Proofs

open Sys2Proof Sys2Proof.Machine Sys2Proof.Laws

/-! ### What the remaining operations leave alone -/

/-- One turn of a primitive command touches RootQ alone in TS, and fills it no further than its depth. -/
theorem generateStep_ts (g : Generation) (s : State) : ∃ q, (generateStep g s).ts = { s.ts with rootQ := q }
    ∧ (s.ts.rootQ.length ≤ Config.rootQueueDepth → q.length ≤ Config.rootQueueDepth) := by
  obtain ⟨w, p, rob, q, heq, -, -, hq⟩ := generateStep_cases g s
  refine ⟨q, by rw [heq], fun hs => ?_⟩
  obtain rfl | ⟨room, r, rfl⟩ := hq
  · exact hs
  · simpa using room

@[simp] theorem generateStep_record (g : Generation) (s : State) :
    (generateStep g s).vfe.record = s.vfe.record := by
  obtain ⟨w, p, rob, q, heq, -⟩ := generateStep_cases g s
  rw [heq]

@[simp] theorem stateFlushStep_record (w : BitVec 8) (m : BitVec 16) (s : State) :
    (stateFlushStep w m s).vfe.record = s.vfe.record := by
  unfold stateFlushStep; split <;> rfl

/-- TD serves a request: a handle may be dereferenced and the fence set, and the request becomes a thread. -/
theorem serveTd_cases (q : TdReq) (h : HalfSlice) (s : State) : ∃ pool fence,
    serveTd q h s
      = { s with
          vfe := { s.vfe with pool := pool }
          ts := { s.ts with fence := fence }
          td := ⟨s.td.queue.tail, s.td.threads ++ [threadFor s q h], s.td.freeSlots - 1, s.td.nextThread + 1⟩ } := by
  unfold serveTd acknowledge
  split
  · exact ⟨s.vfe.pool, s.ts.fence, rfl⟩
  · dsimp only
    split
    · exact ⟨s.vfe.pool, _, rfl⟩
    · exact ⟨_, _, rfl⟩

@[simp] theorem serveTd_params (q : TdReq) (h : HalfSlice) (s : State) : (serveTd q h s).params = s.params := by
  obtain ⟨pool, fence, heq⟩ := serveTd_cases q h s
  rw [heq]

@[simp] theorem serveTd_record (q : TdReq) (h : HalfSlice) (s : State) :
    (serveTd q h s).vfe.record = s.vfe.record := by
  obtain ⟨pool, fence, heq⟩ := serveTd_cases q h s
  rw [heq]

@[simp] theorem serveTd_gateway (q : TdReq) (h : HalfSlice) (s : State) : (serveTd q h s).gateway = s.gateway := by
  obtain ⟨pool, fence, heq⟩ := serveTd_cases q h s
  rw [heq]

/-! ### O52: the records of the outstanding roots -/

/-- Where the keys of a list differ, exactly one entry has a key that occurs. -/
theorem length_filter_key {α β : Type} [DecidableEq β] (key : α → β) {l : List α} {k : β} (hl : (l.map key).Nodup)
    (hk : k ∈ l.map key) : (l.filter (key · != k)).length = l.length - 1 := by
  calc (l.filter (key · != k)).length
      = ((l.map key).filter (· != k)).length := by simp [List.filter_map, Function.comp_def]
    _ = ((l.map key).erase k).length := by rw [hl.erase_eq_filter]
    _ = l.length - 1 := by simp [List.length_erase_of_mem hk]

/-- Starting a root enters its FFTID, scratch slot and record, and both ids were free. -/
theorem recordsAgree_startRoot {s : State} (r : RootReq) (x : Option UrbRef) (room : rootRoom s = true)
    (h : recordsAgree s.ts) : recordsAgree (startRoot s r x).ts := by
  obtain ⟨hcount, hfftids, hscratch, hnodupF, hnodupS⟩ := h
  have freshF : pickedFftid s ∉ s.ts.outstanding.map (·.fftid) := hfftids ▸ pickedFftid_free room
  have freshS : pickedSlot s ∉ s.ts.outstanding.map (·.scratchSlot) := by
    simpa [hscratch] using (pickedSlot_free room).1
  refine ⟨?_, ?_, ?_, hnodupF.cons freshF, hnodupS.cons freshS⟩
  · simp [startRoot, hcount]
  · simp [startRoot, hfftids, outstandingFor]
  · simp [startRoot, hscratch, outstandingFor]

/-- Noting a dereference changes no FFTID and no scratch slot. -/
theorem recordsAgree_markDereferenced {ts : Spawner} (f : BitVec 8) (h : recordsAgree ts) :
    recordsAgree (ts.markDereferenced f) := by
  have same {α : Type} (p : Outstanding → α) (hp : ∀ o, p { o with dereferenced := true } = p o) :
      (ts.markDereferenced f).outstanding.map p = ts.outstanding.map p := by
    simp only [Spawner.markDereferenced, List.map_map]
    refine List.map_congr_left fun o _ => ?_
    simp only [Function.comp_apply]
    split
    · exact hp o
    · rfl
  obtain ⟨hcount, hfftids, hscratch, hnodupF, hnodupS⟩ := h
  refine ⟨?_, ?_, ?_, ?_, ?_⟩
  · simpa [Spawner.markDereferenced] using hcount
  · exact hfftids.trans (same _ fun _ => rfl).symm
  · exact hscratch.trans (same _ fun _ => rfl).symm
  · rwa [same (·.fftid) fun _ => rfl]
  · rwa [same (·.scratchSlot) fun _ => rfl]

/-- Retiring a root takes its FFTID, scratch slot and record out. -/
theorem recordsAgree_retireRoot {ts : Spawner} {o : Outstanding} (ho : o.fftid ∈ ts.fftids) (h : recordsAgree ts) :
    recordsAgree (ts.retireRoot o) := by
  obtain ⟨hcount, hfftids, hscratch, hnodupF, hnodupS⟩ := h
  have kept : (ts.outstanding.filter (·.fftid != o.fftid)).Sublist ts.outstanding := List.filter_sublist
  refine ⟨?_, ?_, ?_, (kept.map _).nodup hnodupF, (kept.map _).nodup hnodupS⟩
  · simp only [Spawner.retireRoot]
    rw [length_filter_key _ hnodupF (hfftids ▸ ho), hcount]
  · simp [Spawner.retireRoot, hfftids, List.filter_map, Function.comp_def]
  · simp [Spawner.retireRoot, hscratch, List.filter_map, Function.comp_def]

/-- A root's last message leaves the records in agreement, whether it ends the thread or not. -/
theorem recordsAgree_endRoot {s : State} {eot : Bool} {o : Outstanding} (ho : o.fftid ∈ s.ts.fftids)
    (h : recordsAgree s.ts) : recordsAgree (s.endRoot eot o).ts := by
  unfold State.endRoot
  split
  · exact recordsAgree_retireRoot ho h
  · exact h

/-- The record found under an FFTID is that of an FFTID in use. -/
theorem fftid_mem_of_found {ts : Spawner} {f : BitVec 8} {o : Outstanding} (h : recordsAgree ts)
    (found : outstandingOf ts f = some o) : o.fftid ∈ ts.fftids := by
  obtain ⟨-, hfftids, -⟩ := h
  exact hfftids ▸ List.mem_map_of_mem (outstandingOf_some found).1

theorem Move.keeps_recordsAgree {s t : State} {e : Event} (hm : Move s e t) (h : recordsAgree s.ts) :
    recordsAgree t.ts := by
  cases hm with
  | startRoot _ r x _ _ room => exact recordsAgree_startRoot r x room h
  | derefUrb found =>
    have inUse := fftid_mem_of_found h found
    exact recordsAgree_endRoot inUse (recordsAgree_markDereferenced _ h)
  | derefNourb found => exact recordsAgree_endRoot (fftid_mem_of_found h found) h
  | generate _ g =>
    obtain ⟨q, hq, -⟩ := generateStep_ts g _
    rw [hq]
    exact h
  | stateFlush => rw [stateFlushStep_ts]; exact h
  | serve half =>
    obtain ⟨pool, fence, heq⟩ := serveTd_cases _ half s
    rw [heq]
    exact h
  | _ => exact h

/-- Settles O52: only the start and the end of a root thread touch the records. -/
theorem recordsStayInAgreement : Obligations.RecordsStayInAgreement := by
  intro s t h hstep
  obtain ⟨agenda, count, hm⟩ := step_moves hstep
  exact hm.keeps_recordsAgree h

/-! ### O49: who writes the record, the barriers and the sizes -/

theorem Move.keeps_params {s t : State} {e : Event} (hm : Move s e t) : t.params = s.params := by
  cases hm with
  | serve | generate | stateFlush | derefUrb | derefNourb => simp
  | _ => rfl

theorem Move.record_cases {s t : State} {e : Event} (hm : Move s e t) : t.vfe.record = s.vfe.record
    ∨ e = .vfeTurn ∧ ∃ c rest, decodeCommand (leadingDWords s.cs.stream) = .ok (.mediaVfeState c, rest)
        ∧ t.vfe.record = c.fields := by
  cases hm with
  | vfeState decoded => exact .inr ⟨rfl, _, _, decoded, rfl⟩
  | serve | generate | stateFlush | derefUrb | derefNourb => exact .inl (by simp)
  | _ => exact .inl rfl

/-- Resetting the Gateway's timer leaves the barriers alone. -/
theorem writeVfeRecord_barriers (s : State) (v : VfeRecord) :
    (writeVfeRecord s v).gateway.barriers = s.gateway.barriers := by
  simp only [writeVfeRecord]
  split <;> rfl

theorem Move.barriers_cases {s t : State} {e : Event} (hm : Move s e t) : t.gateway.barriers = s.gateway.barriers
    ∨ e = .vfeTurn ∧ ∃ c rest, decodeCommand (leadingDWords s.cs.stream) = .ok (.mediaGatewayState c, rest) := by
  cases hm with
  | gatewayState decoded => exact .inr ⟨rfl, _, _, decoded⟩
  | vfeState => exact .inl (writeVfeRecord_barriers _ _)
  | serve | generate | stateFlush | derefUrb | derefNourb => exact .inl (by simp)
  | _ => exact .inl rfl

/-- Settles O49: each part from the moves, which read the same stream. -/
theorem recordWrittenOnlyByItsCommand : Obligations.RecordWrittenOnlyByItsCommand := by
  intro s t hstep
  obtain ⟨agenda, count, hm⟩ := step_moves hstep
  exact ⟨hm.record_cases.resolve_left, hm.barriers_cases.resolve_left, hm.keeps_params⟩

/-! ### O50: graphics memory -/

/-- Settles O50: byte `b` lies in the run that was written, or outside it. -/
theorem memoryReadAfterWrite : Obligations.MemoryReadAfterWrite := by
  intro m a b bytes hwf
  refine ⟨wf_writeRun bytes a hwf, ?_⟩
  split
  next inside =>
    obtain ⟨i, rfl⟩ := Nat.exists_eq_add_of_le inside.1
    rw [Nat.add_sub_cancel_left]
    exact read_writeRun_inside bytes a i hwf (by omega)
  next outside => exact read_writeRun_outside bytes a b hwf (by omega)

/-! ### O53: the slots and the names of the threads -/

/-- Replacing a thread changes no name. -/
@[simp] theorem setThread_names (td : Dispatcher) (th : Thread) :
    (td.setThread th).threads.map (·.id) = td.threads.map (·.id) := by
  simp only [Dispatcher.setThread, List.map_map]
  refine List.map_congr_left fun u _ => ?_
  simp only [Function.comp_apply]
  split
  next hid => exact (beq_iff_eq.mp hid).symm
  next => rfl

/-- The names agree when those there are differ and lie below the next one. -/
theorem namesAgree_iff (td : Dispatcher) : namesAgree td ↔
    (td.threads.map (·.id)).Nodup ∧ ∀ i ∈ td.threads.map (·.id), i < td.nextThread := by
  simp [namesAgree]

/-- Slots and names agree: what O53 says a step keeps. -/
def ThreadsAgree (p : Config.Params) (td : Dispatcher) : Prop := slotsAgree p td ∧ namesAgree td

theorem threadsAgree_setThread {p : Config.Params} {td : Dispatcher} (th : Thread) (h : ThreadsAgree p td) :
    ThreadsAgree p (td.setThread th) := by
  obtain ⟨hslots, hnames⟩ := h
  refine ⟨?_, ?_⟩
  · simpa [slotsAgree, Dispatcher.setThread] using hslots
  · rw [namesAgree_iff, setThread_names]
    exact (namesAgree_iff td).mp hnames

/-- A free slot takes a thread with the next name. -/
theorem threadsAgree_serve {p : Config.Params} {td : Dispatcher} {th : Thread} (queue : List TdReq)
    (free : 0 < td.freeSlots) (name : th.id = td.nextThread) (h : ThreadsAgree p td) :
    ThreadsAgree p ⟨queue, td.threads ++ [th], td.freeSlots - 1, td.nextThread + 1⟩ := by
  obtain ⟨hslots, hnodup, hlt⟩ := h
  refine ⟨?_, ?_, ?_⟩
  · simp only [slotsAgree, List.length_append, List.length_singleton] at hslots ⊢
    omega
  · have fresh : th.id ∉ td.threads.map (·.id) := by
      intro hmem
      obtain ⟨u, hu, hid⟩ := List.mem_map.mp hmem
      have := hlt u hu
      omega
    simpa using hnodup.concat fresh
  · intro u hu
    obtain hu | rfl : u ∈ td.threads ∨ u = th := by simpa using hu
    · exact Nat.lt_succ_of_lt (hlt u hu)
    · exact name ▸ Nat.lt_succ_self _

/-- A retired thread leaves a free slot. -/
theorem threadsAgree_retire {p : Config.Params} {td : Dispatcher} {id : Nat} {th : Thread}
    (found : threadOf td id = some th) (h : ThreadsAgree p td) :
    ThreadsAgree p { td with threads := td.threads.filter (·.id != id), freeSlots := td.freeSlots + 1 } := by
  obtain ⟨hslots, hnodup, hlt⟩ := h
  have hmem : th ∈ td.threads := List.mem_of_find?_eq_some found
  have hid : th.id = id := by simpa using List.find?_some found
  have kept : (td.threads.filter (·.id != id)).Sublist td.threads := List.filter_sublist
  refine ⟨?_, (kept.map _).nodup hnodup, fun u hu => hlt u (kept.subset hu)⟩
  have hpos : 0 < td.threads.length := List.length_pos_of_mem hmem
  simp only [slotsAgree] at hslots ⊢
  rw [length_filter_key _ hnodup (hid ▸ List.mem_map_of_mem hmem)]
  omega

theorem Move.keeps_threadsAgree {s t : State} {e : Event} (hm : Move s e t) (h : ThreadsAgree s.params s.td) :
    ThreadsAgree s.params t.td := by
  cases hm with
  | serve half _ free =>
    obtain ⟨pool, fence, heq⟩ := serveTd_cases _ half s
    rw [heq]
    exact threadsAgree_serve _ free rfl h
  | accept | thread => exact threadsAgree_setThread _ h
  | retire found => exact threadsAgree_retire found h
  | generate => rwa [generateStep_td]
  | stateFlush => rwa [stateFlushStep_td]
  | derefUrb => rwa [endRoot_td]
  | derefNourb => rwa [endRoot_td]
  | _ => exact h

/-- Settles O53: slots and names change only when TD serves a request and when a slot is retired. -/
theorem slotsStayInAgreement : Obligations.SlotsStayInAgreement := by
  intro s t hslots hnames hstep
  obtain ⟨agenda, count, hm⟩ := step_moves hstep
  rw [hm.keeps_params]
  exact hm.keeps_threadsAgree ⟨hslots, hnames⟩

/-! ### O54: the depths of the queues -/

/-- Queues that gain no entry stay within their depths. -/
theorem queuesBounded_of_le {s t : State} (h : queuesBounded s) (params : t.params = s.params)
    (root : t.ts.rootQ.length ≤ s.ts.rootQ.length) (child : childQEntries t ≤ childQEntries s) :
    queuesBounded t := by
  obtain ⟨hroot, hchild⟩ := h
  refine ⟨root.trans hroot, ?_⟩
  rw [params]
  exact child.trans hchild

/-- A thread's message does not change what TD can accept. -/
@[simp] theorem unacceptedChildren_setThread (td : Dispatcher) (th : Thread) :
    unacceptedChildren (td.setThread th) = unacceptedChildren td := rfl

/-- TD serving a request changes no entry of ChildQ. -/
theorem childQEntries_serveTd {s : State} {q : TdReq} {queue : List TdReq} (h : HalfSlice)
    (first : s.td.queue = q :: queue) (free : 0 < s.td.freeSlots) :
    childQEntries (serveTd q h s) = childQEntries s := by
  obtain ⟨pool, fence, heq⟩ := serveTd_cases q h s
  simp [heq, childQEntries, first, unacceptedChildren_served first free]

/-- A spawn-child message leaves ChildQ; its request keeps at most the entry it had. -/
theorem childQEntries_startChild_le {s : State} (m : MsgFields) (waiting : s.ts.childQ ≠ []) :
    childQEntries (startChild s m) ≤ childQEntries s := by
  have added := unacceptedChildren_append_le s.td (childTdReq s m)
  have hpos : 0 < s.ts.childQ.length := List.length_pos_iff.mpr waiting
  simp only [childTdReq, beq_self_eq_true, if_true] at added
  simp only [childQEntries, startChild, popChildQ_ts_childQ, List.length_tail, childTdReq]
  omega

/-- The request of a root takes no entry of ChildQ. -/
theorem childQEntries_startRoot_le (s : State) (r : RootReq) (x : Option UrbRef) :
    childQEntries (startRoot s r x) ≤ childQEntries s :=
  Nat.add_le_add_left (unacceptedChildren_append_le s.td (rootTdReq s r x)) _

/-- Fewer messages in ChildQ take fewer entries. -/
theorem childQEntries_le_of_childQ {s t : State} (queue : t.ts.childQ.length ≤ s.ts.childQ.length) (td : t.td = s.td) :
    childQEntries t ≤ childQEntries s := by
  simp only [childQEntries, td]
  omega

/-- The end of a root touches neither queue. -/
@[simp] theorem endRoot_rootQ (s : State) (eot : Bool) (o : Outstanding) :
    (s.endRoot eot o).ts.rootQ = s.ts.rootQ := by
  unfold State.endRoot; split <;> rfl

@[simp] theorem endRoot_childQ (s : State) (eot : Bool) (o : Outstanding) :
    (s.endRoot eot o).ts.childQ = s.ts.childQ := by
  unfold State.endRoot; split <;> rfl

theorem Move.keeps_queuesBounded {s t : State} {e : Event} (hm : Move s e t) (h : queuesBounded s) :
    queuesBounded t := by
  have hparams := hm.keeps_params
  cases hm with
  | generate _ g =>
    obtain ⟨q, hq, bounded⟩ := generateStep_ts g _
    obtain ⟨hroot, hchild⟩ := h
    refine ⟨?_, ?_⟩
    · rw [hq]
      exact bounded hroot
    · simpa [childQEntries, hq] using hchild
  | accept _ _ room =>
    refine ⟨h.1, ?_⟩
    simp only [childQEntries, acceptMessage, List.length_append, List.length_singleton,
      unacceptedChildren_setThread] at room ⊢
    omega
  | popChildQ => exact queuesBounded_of_le h hparams le_rfl (childQEntries_le_of_childQ (by simp) rfl)
  | startChild m waiting => exact queuesBounded_of_le h hparams le_rfl (childQEntries_startChild_le m waiting)
  | setAside _ root child =>
    exact queuesBounded_of_le h hparams root.length_le (childQEntries_le_of_childQ child.length_le rfl)
  | startRoot _ r x root child =>
    exact queuesBounded_of_le h hparams root.length_le
      ((childQEntries_startRoot_le _ r x).trans (childQEntries_le_of_childQ child.length_le rfl))
  | derefUrb =>
    exact queuesBounded_of_le h hparams (by simp [Spawner.markDereferenced])
      (childQEntries_le_of_childQ (by simp [Spawner.markDereferenced]) (by simp))
  | derefNourb =>
    exact queuesBounded_of_le h hparams (by simp) (childQEntries_le_of_childQ (by simp) (by simp))
  | serve half first free =>
    refine queuesBounded_of_le h hparams ?_ (childQEntries_serveTd half first free).le
    obtain ⟨pool, fence, heq⟩ := serveTd_cases _ half s
    rw [heq]
  | retire =>
    exact queuesBounded_of_le h hparams le_rfl (Nat.add_le_add_left (unacceptedChildren_freed_le _ _) _)
  | stateFlush => exact queuesBounded_of_le h hparams (by simp) (by simp [childQEntries])
  | _ => exact h

/-- Settles O54: an entry is added only where there is room, or for one that is taken off. -/
theorem queuesStayBounded : Obligations.QueuesStayBounded := by
  intro s t h hstep
  obtain ⟨agenda, count, hm⟩ := step_moves hstep
  exact hm.keeps_queuesBounded h

end Sys2Proof.Proofs
end

section
/-! SUPPORT. Who writes the stores: graphics memory, the ROB and its older versions, each by one case analysis over
`Move`, and the statements of 20_memory.md they settle. -/

namespace Sys2Proof.Proofs

open Sys2Proof Sys2Proof.Machine Sys2Proof.Laws

/-! ### The stores and the remaining operations -/

@[simp] theorem serveTd_mem (q : TdReq) (h : HalfSlice) (s : State) : (serveTd q h s).mem = s.mem := by
  obtain ⟨pool, fence, heq⟩ := serveTd_cases q h s
  rw [heq]

@[simp] theorem serveTd_rob (q : TdReq) (h : HalfSlice) (s : State) : (serveTd q h s).rob = s.rob := by
  obtain ⟨pool, fence, heq⟩ := serveTd_cases q h s
  rw [heq]

@[simp] theorem serveTd_stale (q : TdReq) (h : HalfSlice) (s : State) : (serveTd q h s).stale = s.stale := by
  obtain ⟨pool, fence, heq⟩ := serveTd_cases q h s
  rw [heq]

/-- One turn of a primitive command writes at most a payload, and so keeps the ROB canonical. -/
theorem generateStep_rob_wf (g : Generation) {s : State} (h : Sparse.wf s.rob.regs = true) :
    Sparse.wf (generateStep g s).rob.regs = true := by
  obtain ⟨w, p, rob, q, heq, -, hrob, -⟩ := generateStep_cases g s
  rw [heq]
  obtain rfl | ⟨base, rfl⟩ := hrob
  · exact h
  · exact rob_writeRun_wf _ _ _ h

/-- The older versions after a load are the older ones before it and the version it replaces. -/
theorem staleAfterLoad_subset (s : State) : staleAfterLoad s ⊆ s.rob :: s.stale := by
  unfold staleAfterLoad
  split
  · exact List.nil_subset _
  · exact List.Subset.refl _

/-! ### O48: who writes graphics memory -/

theorem Move.mem_cases {s t : State} {e : Event} (hm : Move s e t) :
    t.mem = s.mem ∨ ∃ a bytes, e = .memWrite a bytes ∧ t.mem = Memory.write s.mem a bytes := by
  cases hm with
  | memWrite a bytes => exact .inr ⟨a, bytes, rfl, rfl⟩
  | serve | generate | stateFlush | derefUrb | derefNourb => exact .inl (by simp)
  | _ => exact .inl rfl

/-- Settles O48: of all moves a write from outside alone touches memory. -/
theorem pipelineWritesNoMemory : Obligations.PipelineWritesNoMemory := by
  intro s t hstep inside
  obtain ⟨agenda, count, hm⟩ := step_moves hstep
  obtain same | ⟨a, bytes, outside, -⟩ := hm.mem_cases
  · exact same
  · exact absurd outside (inside a bytes)

/-! ### O51: the canonical form of the stores -/

theorem storesCanonical_iff (s : State) : storesCanonical s = true ↔
    Memory.wf s.mem = true ∧ Sparse.wf s.rob.regs = true ∧ ∀ r ∈ s.stale, Sparse.wf r.regs = true := by
  simp only [storesCanonical, Bool.and_eq_true, List.all_eq_true, and_assoc]

theorem Move.keeps_mem_wf {s t : State} {e : Event} (hm : Move s e t) (h : Memory.wf s.mem = true) :
    Memory.wf t.mem = true := by
  obtain same | ⟨a, bytes, -, written⟩ := hm.mem_cases
  · rwa [same]
  · rw [written]
    exact wf_writeRun bytes a h

/-- The ROB is written by the two loads, by a payload and by a thread. -/
theorem Move.keeps_rob_wf {s t : State} {e : Event} (hm : Move s e t) (h : Sparse.wf s.rob.regs = true) :
    Sparse.wf t.rob.regs = true := by
  cases hm with
  | curbeLoad regs | descriptorLoad regs => exact rob_writeRun_wf _ regs _ h
  | generate _ g => exact generateStep_rob_wf g h
  | urbWrite _ _ v => exact rob_write_wf _ _ v h
  | serve | stateFlush | derefUrb | derefNourb => simpa using h
  | _ => exact h

/-- A version becomes an older one only by being the ROB before the step. -/
theorem Move.stale_subset {s t : State} {e : Event} (hm : Move s e t) : t.stale ⊆ s.rob :: s.stale := by
  cases hm with
  | curbeLoad | descriptorLoad => exact staleAfterLoad_subset s
  | csFlush => exact List.nil_subset _
  | serve | generate | stateFlush | derefUrb | derefNourb => simp
  | _ => exact List.subset_cons_self _ _

theorem Move.keeps_storesCanonical {s t : State} {e : Event} (hm : Move s e t) (h : storesCanonical s = true) :
    storesCanonical t = true := by
  obtain ⟨hmem, hrob, hstale⟩ := (storesCanonical_iff s).mp h
  have older : ∀ r ∈ s.rob :: s.stale, Sparse.wf r.regs = true := List.forall_mem_cons.mpr ⟨hrob, hstale⟩
  exact (storesCanonical_iff t).mpr
    ⟨hm.keeps_mem_wf hmem, hm.keeps_rob_wf hrob, fun r hr => older r (hm.stale_subset hr)⟩

/-- Settles O51: every write keeps the form, and an older version of the ROB was the present one once. -/
theorem storesStayCanonical : Obligations.StoresStayCanonical := by
  intro s t h hstep
  obtain ⟨agenda, count, hm⟩ := step_moves hstep
  exact hm.keeps_storesCanonical h

end Sys2Proof.Proofs
end

section
/-! SUPPORT. The encodings of 30_encoding.md: the fields read back of a DWord that is put together from them, the fields
of a whole command or message, where a command ends in a stream; and the statements on encoding they settle. -/

namespace Sys2Proof.Proofs

open Sys2Proof Sys2Proof.Machine Sys2Proof.Laws Sys2Proof.Certificates
open BitVec (extractLsb'_append_eq_of_add_le extractLsb'_append_eq_of_le)

/-! ### The DWords of a command -/

@[simp] theorem dw_cons_succ (w : DWord) (l : List DWord) (n : Nat) : dw (w :: l) (n + 1) = dw l n := rfl

/-- What follows a command does not change its DWords. -/
theorem dw_append {l : List DWord} (rest : List DWord) {n : Nat} (h : n < l.length) : dw (l ++ rest) n = dw l n :=
  List.getD_append l rest 0 n h

/-- A command that is cut off keeps the DWords before the cut. -/
theorem dw_take (l : List DWord) {n k : Nat} (h : n < k) : dw (l.take k) n = dw l n := by
  simp [dw, List.getD_eq_getElem?_getD, List.getElem?_take_of_lt h]

/-- The first `L + 2` DWords of a command begin with its DWord 0. -/
@[simp] theorem dw_take_commandDWords (ds : List DWord) (w : DWord) : dw (ds.take (commandDWords w)) 0 = dw ds 0 :=
  dw_take ds (Nat.succ_pos _)

/-! ### The fields of one DWord

A DWord is put together from fields with `++`, the highest first. Reading one of them forgets what stands above it
(`extractLsb'_append_eq_of_add_le`) and what stands below it (`extractLsb'_append_eq_of_le`). These two laws match only
while a width is still the sum of its parts: hence `-Nat.reduceAdd`. -/

/-- A flag is a field of one bit. -/
theorem flag_eq_bits (w : DWord) (i : Nat) : flag w i = (bits w i 1)[0] := by simp [flag, bits]

@[simp] theorem bit_getElem_zero (b : Bool) : (bit b)[0] = b := by cases b <;> rfl

@[simp] theorem fieldXY_encodeXY9 (p : FieldXY 9) : fieldXY (encodeXY9 p) 9 = p := by
  simp (disch := omega) [-Nat.reduceAdd, fieldXY, encodeXY9, bits, extractLsb'_append_eq_of_add_le,
    extractLsb'_append_eq_of_le]

@[simp] theorem fieldXY_encodeXY10 (p : FieldXY 10) : fieldXY (encodeXY10 p) 10 = p := by
  simp (disch := omega) [-Nat.reduceAdd, fieldXY, encodeXY10, bits, extractLsb'_append_eq_of_add_le,
    extractLsb'_append_eq_of_le]

/-- The four pairs of a DWord of scoreboard deltas come back (30_encoding.md R125). -/
theorem deltaOf_encodeDeltas (d0 d1 d2 d3 : ScoreboardDelta) :
    deltaOf (encodeDeltas d0 d1 d2 d3) 0 = d0 ∧ deltaOf (encodeDeltas d0 d1 d2 d3) 1 = d1
      ∧ deltaOf (encodeDeltas d0 d1 d2 d3) 2 = d2 ∧ deltaOf (encodeDeltas d0 d1 d2 d3) 3 = d3 := by
  simp (disch := omega) [-Nat.reduceAdd, deltaOf, encodeDeltas, bits, extractLsb'_append_eq_of_add_le,
    extractLsb'_append_eq_of_le]

/-! ### The fields of a whole command -/

/-- Eight scoreboard deltas are the vector of them. -/
theorem vector_of_eight {α : Type} (v : Vector α 8) : #v[v[0], v[1], v[2], v[3], v[4], v[5], v[6], v[7]] = v := by
  ext i hi
  interval_cases i <;> rfl

/-- The record of MEDIA_VFE_STATE comes back (30_encoding.md R125). -/
@[simp] theorem vfeRecordOf_encodeVfeRecord (w : DWord) (v : VfeRecord) : vfeRecordOf (w :: encodeVfeRecord v) = v := by
  simp (disch := omega) [-Nat.reduceAdd, vfeRecordOf, encodeVfeRecord, flag_eq_bits, bits,
    extractLsb'_append_eq_of_add_le, extractLsb'_append_eq_of_le, deltaOf_encodeDeltas, vector_of_eight]

/-- The walker parameters come back from DWord 6 up (30_encoding.md R132). -/
theorem walkerParamsOf_encodeWalkerParams (w0 w1 w2 w3 w4 w5 : DWord) (w : WalkerParams) (l : List DWord) :
    walkerParamsOf (w0 :: w1 :: w2 :: w3 :: w4 :: w5 :: (encodeWalkerParams w ++ l)) = w := by
  simp (disch := omega) [-Nat.reduceAdd, walkerParamsOf, encodeWalkerParams, flag_eq_bits, bits,
    extractLsb'_append_eq_of_add_le, extractLsb'_append_eq_of_le]

/-- The MBZ fields between the walker parameters are zero (30_encoding.md R132). -/
theorem walkerMbz_encodeWalkerParams (w0 w1 w2 w3 w4 w5 : DWord) (w : WalkerParams) (l : List DWord) :
    walkerMbz (w0 :: w1 :: w2 :: w3 :: w4 :: w5 :: (encodeWalkerParams w ++ l)) = true := by
  simp (disch := omega) [-Nat.reduceAdd, walkerMbz, encodeWalkerParams, encodeXY9, encodeXY10, mbz, bits,
    extractLsb'_append_eq_of_add_le, extractLsb'_append_eq_of_le]

@[simp] theorem drop_encodeWalkerParams (w : WalkerParams) (l : List DWord) :
    (encodeWalkerParams w ++ l).drop 11 = l := rfl

/-! ### The fields of a message -/

/-- The DWords of M0 are those it is put together from (30_encoding.md R136). -/
theorem dword_ofList (l : List DWord) {d : Nat} (hd : d < 8) : (Reg.ofList l).dword d = dw l d :=
  dword_ofDWords _ hd

/-- The fields of a message come back (30_encoding.md R136). -/
theorem msgFieldsOf_encodeM0 (desc : BitVec 20) (f : MsgFields) : msgFieldsOf ⟨desc, f.eot, encodeM0 f⟩ = f := by
  simp (disch := omega) [-Nat.reduceAdd, msgFieldsOf, encodeM0, dword_ofList, bits, extractLsb'_append_eq_of_add_le,
    extractLsb'_append_eq_of_le]

/-- M0.0[27:16] of an encoded message is zero (30_encoding.md R136). -/
theorem encodeM0_mbz (f : MsgFields) : bits ((encodeM0 f).dword 0) 16 12 = 0 := by
  simp (disch := omega) [-Nat.reduceAdd, encodeM0, dword_ofList, bits, extractLsb'_append_eq_of_le]

theorem messageMbz_iff (m : SendMsg) : messageMbz m = true ↔
    m.desc.extractLsb' 5 15 = 0 ∧ m.desc.extractLsb' 2 2 = 0 ∧ bits (m.m0.dword 0) 16 12 = 0 := by
  simp only [messageMbz, mbz, Bool.and_eq_true, beq_iff_eq, and_assoc]

/-- A message is rejected for its MBZ bits and for nothing else (30_encoding.md R135, R136). -/
theorem decodeMessage_error_iff (m : SendMsg) : decodeMessage m = .error .reservedBits ↔ ¬ messageMbz m = true := by
  unfold decodeMessage whenZero
  split <;> simp [*]

/-- Where the MBZ bits are zero, the descriptor `d` selects the form (30_encoding.md R135). -/
theorem decodeMessage_of_desc {m : SendMsg} (d : BitVec 20) (desc : m.desc = d)
    (zero : d.extractLsb' 5 15 = 0 ∧ d.extractLsb' 2 2 = 0) (zeroM0 : bits (m.m0.dword 0) 16 12 = 0) :
    decodeMessage m = .ok (messageForm (d.getLsbD 4) (d.getLsbD 1) (d.getLsbD 0) (msgFieldsOf m)) := by
  subst desc
  have hz : messageMbz m = true := (messageMbz_iff m).mpr ⟨zero.1, zero.2, zeroM0⟩
  simp [decodeMessage, whenZero, hz]

/-! ### Reading an encoding back -/

/-- The instruction of an encoding all of whose bits are given, however many DWords its DWord Length asks for. -/
def readPacket : Packet → Except Reject Instr
  | .command ds => decodeBody ds
  | .message m => decodeMessage m

/-- An encoded message comes back in the form its descriptor selects. -/
theorem readPacket_encodeMessage (d : BitVec 20) (f : MsgFields)
    (zero : d.extractLsb' 5 15 = 0 ∧ d.extractLsb' 2 2 = 0) :
    readPacket (encodeMessage d f) = .ok (messageForm (d.getLsbD 4) (d.getLsbD 1) (d.getLsbD 0) f) := by
  have h := decodeMessage_of_desc (m := ⟨d, f.eot, encodeM0 f⟩) d rfl zero (encodeM0_mbz f)
  rwa [msgFieldsOf_encodeM0] at h

/-- MEDIA_VFE_STATE comes back: its record, and the MBZ fields between (30_encoding.md R125). -/
theorem decodeMediaVfeState_encode (l : BitVec 16) (v : VfeRecord) :
    decodeMediaVfeState (headerDWord 0x7000#16 l :: encodeVfeRecord v) = .ok (.mediaVfeState ⟨l, v⟩) := by
  rw [decodeMediaVfeState, vfeRecordOf_encodeVfeRecord]
  simp (disch := omega) [-Nat.reduceAdd, whenZero, headerDWord, encodeVfeRecord, mbz, bits,
    extractLsb'_append_eq_of_add_le, extractLsb'_append_eq_of_le]

/-- Reading the encoding of an instruction gives it back; no length need be legal. -/
theorem readPacket_encode (i : Instr) : readPacket (encode i) = .ok i := by
  cases i with
  | mediaVfeState c => simp [readPacket, encode, decodeBody, decodeMediaVfeState_encode]
  | mediaCurbeLoad c =>
    simp (disch := omega) [-Nat.reduceAdd, readPacket, encode, decodeBody, decodeMediaCurbeLoad, whenZero, headerDWord,
      mbz, bits, extractLsb'_append_eq_of_add_le, extractLsb'_append_eq_of_le]
  | mediaInterfaceDescriptorLoad c =>
    simp (disch := omega) [-Nat.reduceAdd, readPacket, encode, decodeBody, decodeMediaInterfaceDescriptorLoad,
      whenZero, headerDWord, mbz, bits, extractLsb'_append_eq_of_add_le, extractLsb'_append_eq_of_le]
  | mediaGatewayState c =>
    simp (disch := omega) [-Nat.reduceAdd, readPacket, encode, decodeBody, decodeMediaGatewayState, whenZero,
      headerDWord, mbz, bits, extractLsb'_append_eq_of_add_le, extractLsb'_append_eq_of_le]
  | mediaStateFlush c =>
    simp (disch := omega) [-Nat.reduceAdd, readPacket, encode, decodeBody, decodeMediaStateFlush, whenZero,
      headerDWord, mbz, bits, extractLsb'_append_eq_of_add_le, extractLsb'_append_eq_of_le]
  | mediaObject c =>
    simp (disch := omega) [-Nat.reduceAdd, readPacket, encode, decodeBody, decodeMediaObject, whenZero, headerDWord,
      flag_eq_bits, mbz, bits, extractLsb'_append_eq_of_add_le, extractLsb'_append_eq_of_le]
  | mediaObjectPrt c =>
    simp (disch := omega) [-Nat.reduceAdd, readPacket, encode, decodeBody, decodeMediaObjectPrt, whenZero, headerDWord,
      flag_eq_bits, mbz, bits, extractLsb'_append_eq_of_add_le, extractLsb'_append_eq_of_le]
  | mediaObjectWalker c =>
    simp (disch := omega) [-Nat.reduceAdd, readPacket, encode, decodeBody, decodeMediaObjectWalker, whenZero,
      headerDWord, walkerParamsOf_encodeWalkerParams, walkerMbz_encodeWalkerParams, flag_eq_bits, mbz, bits,
      extractLsb'_append_eq_of_add_le, extractLsb'_append_eq_of_le]
  | tsDerefUrbRoot f => exact readPacket_encodeMessage _ f (by decide)
  | tsSpawnChildRoot f => exact readPacket_encodeMessage _ f (by decide)
  | tsDerefUrbChild f => exact readPacket_encodeMessage _ f (by decide)
  | tsSpawnChildChild f => exact readPacket_encodeMessage _ f (by decide)
  | tsDerefNourbRoot f => exact readPacket_encodeMessage _ f (by decide)
  | tsSpawnRootRoot f => exact readPacket_encodeMessage _ f (by decide)
  | tsDerefNourbChild f => exact readPacket_encodeMessage _ f (by decide)
  | tsSpawnRootChild f => exact readPacket_encodeMessage _ f (by decide)

/-- The encoding of a well-formed instruction is as long as its own DWord 0 says (30_encoding.md R121). -/
theorem encodedLength (i : Instr) : EncodedLength.Statement i := by
  cases i with
  | mediaVfeState c => exact EncodedLength.mediaVfeState c
  | mediaCurbeLoad c => exact EncodedLength.mediaCurbeLoad c
  | mediaInterfaceDescriptorLoad c => exact EncodedLength.mediaInterfaceDescriptorLoad c
  | mediaGatewayState c => exact EncodedLength.mediaGatewayState c
  | mediaStateFlush c => exact EncodedLength.mediaStateFlush c
  | mediaObject c => exact EncodedLength.mediaObject c
  | mediaObjectPrt c => exact EncodedLength.mediaObjectPrt c
  | mediaObjectWalker c => exact EncodedLength.mediaObjectWalker c
  | tsDerefUrbRoot f => exact EncodedLength.tsDerefUrbRoot f
  | tsSpawnChildRoot f => exact EncodedLength.tsSpawnChildRoot f
  | tsDerefUrbChild f => exact EncodedLength.tsDerefUrbChild f
  | tsSpawnChildChild f => exact EncodedLength.tsSpawnChildChild f
  | tsDerefNourbRoot f => exact EncodedLength.tsDerefNourbRoot f
  | tsSpawnRootRoot f => exact EncodedLength.tsSpawnRootRoot f
  | tsDerefNourbChild f => exact EncodedLength.tsDerefNourbChild f
  | tsSpawnRootChild f => exact EncodedLength.tsSpawnRootChild f

/-! ### Where a command ends -/

/-- A command that is all there is decoded, and what follows it is left (30_encoding.md R122). -/
theorem decodeCommand_append {ds : List DWord} {i : Instr} (rest : List DWord)
    (length : ds.length = commandDWords (dw ds 0)) (body : decodeBody ds = .ok i) :
    decodeCommand (ds ++ rest) = .ok (i, rest) := by
  have nonempty : 0 < ds.length := length ▸ Nat.succ_pos _
  have first : dw (ds ++ rest) 0 = dw ds 0 := dw_append rest nonempty
  have isEmpty : (ds ++ rest).isEmpty = false := by
    simp [List.isEmpty_eq_false_iff, List.ne_nil_of_length_pos nonempty]
  have complete : ¬ ds.length + rest.length < commandDWords (dw ds 0) := by omega
  simp [decodeCommand, first, isEmpty, complete, List.take_left' length, List.drop_left' length, body]

/-- What is decoded at the front of a stream is the body of its first `L + 2` DWords. -/
theorem decodeCommand_ok {ds rest : List DWord} {i : Instr} (h : decodeCommand ds = .ok (i, rest)) :
    decodeBody (ds.take (commandDWords (dw ds 0))) = .ok i := by
  unfold decodeCommand at h
  split at h
  · cases h
  split at h
  · cases h
  split at h
  next hb =>
    cases h
    exact hb
  next => cases h

/-- Settles O2: the body comes back, and its length is the one in its DWord 0. -/
theorem commandsFollowEachOther : Obligations.CommandsFollowEachOther := by
  intro i ds rest wf enc
  have length := encodedLength i wf
  have body := readPacket_encode i
  rw [enc] at length body
  exact decodeCommand_append rest length body

/-- Settles O1: a command is the case of O2 with nothing after it; a message has one length. -/
theorem decodeEncodeRoundTrip : Obligations.DecodeEncodeRoundTrip := by
  intro i wf
  cases enc : encode i with
  | command ds =>
    have h := commandsFollowEachOther i ds [] wf enc
    rw [List.append_nil] at h
    simp [decode, h]
  | message m =>
    have h := readPacket_encode i
    rwa [enc] at h

/-! ### O3: words written out -/

/-- Words that an instruction of legal length encodes to decode to it. -/
theorem decode_of_encode {i : Instr} {p : Packet} (wf : i.wellFormed = true) (enc : encode i = p) :
    decode p = .ok i :=
  enc ▸ decodeEncodeRoundTrip i wf

/-- Settles O3: each word is the encoding of the instruction it stands for. -/
theorem writtenWordsDecode : Obligations.WrittenWordsDecode := by
  refine ⟨?_, ?_, ?_, ?_⟩
  · exact decode_of_encode (i := .mediaCurbeLoad _) (by decide) (by decide)
  · exact decode_of_encode (i := .mediaGatewayState _) (by decide) (by decide)
  · exact decode_of_encode (i := .mediaStateFlush _) (by decide) (by decide)
  · exact decode_of_encode (i := .tsDerefNourbRoot _) (by decide) (by decide)

/-! ### O4: headers that are not listed -/

/-- The headers of the opcode map (30_encoding.md R123). -/
def listedHeaders : List (BitVec 16) :=
  [0x7000#16, 0x7001#16, 0x7002#16, 0x7003#16, 0x7004#16, 0x7100#16, 0x7102#16, 0x7103#16]

/-- No length is legal for a header that is not listed. -/
theorem legalTotal_of_unlisted {header : BitVec 16} (total : Nat) (h : header ∉ listedHeaders) :
    legalTotal header total = false := by
  simp only [listedHeaders, List.mem_cons, List.not_mem_nil, or_false, not_or] at h
  simp [legalTotal, h]

/-- A body whose header is not listed is rejected by what its Command Type and Pipeline say (30_encoding.md R138). -/
theorem decodeBody_of_unlisted {c : List DWord} (h : bits (dw c 0) 16 16 ∉ listedHeaders) :
    decodeBody c = .error (if bits (dw c 0) 27 5 = 0b01110 then .undefinedCommand else .notMediaCommand) := by
  simp only [listedHeaders, List.mem_cons, List.not_mem_nil, or_false, not_or] at h
  simp only [decodeBody, h, if_false]
  exact (apply_ite _ _ _ _).symm

/-- Settles O4: without a legal length nothing is waited for, and the body is rejected. -/
theorem undefinedHeadersRefused : Obligations.UndefinedHeadersRefused := by
  intro ds nonempty unlisted
  have body := decodeBody_of_unlisted (c := ds.take (commandDWords (dw ds 0))) (by rwa [dw_take_commandDWords])
  rw [dw_take_commandDWords] at body
  simp [decodeCommand, nonempty, legalTotal_of_unlisted _ unlisted, body]

/-! ### O5: the forms of a message -/

/-- Settles O5: the rejection is the MBZ check alone, and each descriptor is a case of `decodeMessage_of_desc`. -/
theorem messageFormsSelected : Obligations.MessageFormsSelected := by
  intro m
  refine ⟨?_, fun zero => ?_⟩
  · rw [decodeMessage_error_iff, messageMbz_iff]
  · have form (d : BitVec 20) (mbz : d.extractLsb' 5 15 = 0 ∧ d.extractLsb' 2 2 = 0) (desc : m.desc = d) :=
      decodeMessage_of_desc d desc mbz zero
    exact ⟨form _ (by decide), form _ (by decide), form _ (by decide), form _ (by decide), form _ (by decide),
      form _ (by decide), form _ (by decide), form _ (by decide)⟩

/-! ### O8: the command pointer -/

/-- The DWord Length a command carries; a message has none. -/
def dwordLengthOf : Instr → Option (BitVec 16)
  | .mediaVfeState c => some c.dwordLength
  | .mediaCurbeLoad c => some c.dwordLength
  | .mediaInterfaceDescriptorLoad c => some c.dwordLength
  | .mediaGatewayState c => some c.dwordLength
  | .mediaStateFlush c => some c.dwordLength
  | .mediaObject c => some c.dwordLength
  | .mediaObjectPrt c => some c.dwordLength
  | .mediaObjectWalker c => some c.dwordLength
  | _ => none

theorem whenZero_ok {zero : Bool} {i j : Instr} (h : whenZero zero i = .ok j) : j = i := by
  unfold whenZero at h
  split at h
  · exact (Except.ok.inj h).symm
  · cases h

/-- Whatever command a body decodes to carries the length in its DWord 0 (30_encoding.md R121): each branch of the
decoder is a rejection, or the MBZ check of a command made with that length. -/
theorem decodeBody_dwordLength {c : List DWord} {i : Instr} (h : decodeBody c = .ok i) :
    dwordLengthOf i = some (bits (dw c 0) 0 16) := by
  unfold decodeBody at h
  dsimp only at h
  repeat' (split at h)
  all_goals first
    | cases h
    | (rw [whenZero_ok h]; rfl)

/-- The check of the descriptor answers a next state exactly when it holds and what follows does. -/
theorem requireDescriptor_next {s t : State} {ido : BitVec 6} {k : Result} :
    requireDescriptor s ido k = .next t ↔ DescriptorReady s ido ∧ k = .next t := by
  simp only [requireDescriptor, require_next, decide_eq_true_eq, and_assoc]

/-- What indirect data needs, where there is any. -/
def IndirectReady (s : State) (c : MediaObject) : Prop :=
  c.indirectDataLength = 0 ∨ (bits c.indirectDataStartAddress 29 3 = 0 ∧ c.indirectDataStartAddress.toNat % 32 = 0
    ∧ s.cs.bases.indirectObject + c.indirectDataStartAddress.toNat + c.indirectDataLength.toNat
        ≤ s.cs.bases.indirectBound)

/-- The check of indirect data answers a next state exactly when it holds and what follows does. -/
theorem requireIndirect_next {s t : State} {c : MediaObject} {k : Result} :
    requireIndirect s c k = .next t ↔ IndirectReady s c ∧ k = .next t := by
  unfold requireIndirect IndirectReady
  split
  next absent => simp [absent]
  next present => simp only [present, false_or, require_next, beq_iff_eq, decide_eq_true_eq, and_assoc]

@[simp] theorem generatePrt_cs (c : MediaObjectPrt) (restart : Bool) (s : State) :
    (generatePrt c restart s).cs = s.cs := by
  simp [generatePrt]

/-- A command that is answered moves the command pointer past the DWords its length counts (30_encoding.md R122). -/
theorem exec_stream {i : Instr} {l : BitVec 16} {s t : State} (length : dwordLengthOf i = some l)
    (h : exec i s = .next t) : t.cs.stream = s.cs.stream.drop (l.toNat + 2) := by
  cases i with
  | mediaVfeState c =>
    cases length
    simp only [exec, execMediaVfeState, require_next, Host.Outcome.next.injEq] at h
    obtain ⟨-, -, -, -, -, -, rfl⟩ := h
    rfl
  | mediaCurbeLoad c =>
    cases length
    simp only [exec, execMediaCurbeLoad, require_next, Host.Outcome.next.injEq] at h
    obtain ⟨-, -, -, -, -, -, -, rfl⟩ := h
    rfl
  | mediaInterfaceDescriptorLoad c =>
    cases length
    simp only [exec, execMediaInterfaceDescriptorLoad, require_next, Host.Outcome.next.injEq] at h
    obtain ⟨-, -, -, -, -, -, -, -, rfl⟩ := h
    rfl
  | mediaGatewayState c =>
    cases length
    simp only [exec, execMediaGatewayState, require_next, Host.Outcome.next.injEq] at h
    obtain ⟨-, -, -, -, -, rfl⟩ := h
    rfl
  | mediaStateFlush c =>
    cases length
    simp only [exec, execMediaStateFlush, require_next, Host.Outcome.next.injEq] at h
    obtain ⟨-, -, rfl⟩ := h
    simp
  | mediaObject c =>
    cases length
    simp only [exec, execMediaObject, require_next, requireDescriptor_next, requireIndirect_next,
      Host.Outcome.next.injEq] at h
    obtain ⟨-, -, -, -, -, -, -, -, -, rfl⟩ := h
    simp
  | mediaObjectPrt c =>
    cases length
    simp only [exec, execMediaObjectPrt, requirePrt, require_next, requireDescriptor_next,
      Host.Outcome.next.injEq] at h
    obtain ⟨-, -, -, -, -, rfl⟩ := h
    simp
  | mediaObjectWalker c =>
    cases length
    simp only [exec, execMediaObjectWalker, require_next, requireDescriptor_next, Host.Outcome.next.injEq] at h
    obtain ⟨-, -, -, -, -, -, -, rfl⟩ := h
    simp
  | tsDerefUrbRoot | tsSpawnChildRoot | tsDerefUrbChild | tsSpawnChildChild
  | tsDerefNourbRoot | tsSpawnRootRoot | tsDerefNourbChild | tsSpawnRootChild => cases length

/-- Settles O8: the decoded length is that of DWord 0, and the meaning moves past it. -/
theorem commandPointerMoves : Obligations.CommandPointerMoves := by
  intro s t i rest decoded answered
  have length := decodeBody_dwordLength (decodeCommand_ok decoded)
  rw [dw_take_commandDWords] at length
  exact exec_stream length answered

/-! ### O9: commands that are refused -/

/-- Every command looks at the pipeline selected first, at its length second (70_reset_and_hazards.md R495,
30_encoding.md R124). -/
theorem exec_command_guards {i : Instr} (command : i.isCommand = true) (s : State) : ∃ k : Result,
    exec i s = require (mediaSelected s) .threeDSelected (require i.wellFormed .illegalLength k) := by
  cases i with
  | tsDerefUrbRoot | tsSpawnChildRoot | tsDerefUrbChild | tsSpawnChildChild
  | tsDerefNourbRoot | tsSpawnRootRoot | tsDerefNourbChild | tsSpawnRootChild => cases command
  | _ => exact ⟨_, rfl⟩

/-- Settles O9: the two guards of every command. -/
theorem illegalCommandsRefused : Obligations.IllegalCommandsRefused := by
  intro i s command
  obtain ⟨k, hk⟩ := exec_command_guards command s
  refine ⟨fun threeD => ?_, fun media illegal => ?_⟩
  · have unselected : mediaSelected s = false := by simp [mediaSelected, threeD]
    rw [hk, unselected, require_false]
  · have selected : mediaSelected s = true := by simp [mediaSelected, media]
    rw [hk, selected, require_true, illegal, require_false]

end Sys2Proof.Proofs
end

section
/-! SUPPORT. The handle pool and the record of VFE: what a step can do to them, and the statement it settles. -/

namespace Sys2Proof.Proofs

open Sys2Proof Sys2Proof.Machine Sys2Proof.Laws Sys2Proof.Certificates

/-! ### O55: the handle pool and the record -/

/-- What can happen to the pool while the record stands: nothing, a handle taken at the head, a handle given back. -/
inductive PoolMove (p : HandlePool) : HandlePool → Prop
  | same : PoolMove p p
  | take : PoolMove p p.take
  | dereference (h : BitVec 16) : PoolMove p (p.dereference h)

theorem PoolMove.length_eq {p q : HandlePool} (hm : PoolMove p q) : q.referenced.length = p.referenced.length := by
  cases hm with
  | same => rfl
  | take => exact List.length_set
  | dereference => exact List.length_set

/-- The head stays a handle of the pool: it moves on round the circle, or not at all. -/
theorem PoolMove.head_lt {p q : HandlePool} (hm : PoolMove p q) (h : p.head < p.referenced.length) :
    q.head < p.referenced.length := by
  cases hm with
  | same => exact h
  | take => exact Nat.mod_lt _ (Nat.zero_lt_of_lt h)
  | dereference => exact h

/-- The pool agrees as long as the record does not change and no handle is added or lost. -/
theorem poolAgrees_of_poolMove {v v' : Vfe} (loaded : v'.loaded = v.loaded) (record : v'.record = v.record)
    (hm : PoolMove v.pool v'.pool) (h : poolAgrees v) : poolAgrees v' := by
  obtain ⟨hcount, hhead⟩ := h
  have length := hm.length_eq
  refine ⟨fun hl => ?_, fun hne => ?_⟩
  · rw [length, record]
    exact hcount (loaded ▸ hl)
  · rw [length]
    exact hm.head_lt (hhead (by simpa [← List.length_eq_zero_iff, length] using hne))

/-- A fresh pool for the record agrees with it. -/
theorem poolAgrees_fresh {v : Vfe} (pool : v.pool = HandlePool.fresh v.record.numberOfUrbEntries.toNat) :
    poolAgrees v := by
  simp [poolAgrees, pool, HandlePool.fresh, Nat.pos_iff_ne_zero]

theorem generateStep_poolMove (g : Generation) {s : State} {p : HandlePool} (pool : s.vfe.pool = p) :
    PoolMove p (generateStep g s).vfe.pool := by
  obtain ⟨w, q, rob, rootQ, heq, hq, -⟩ := generateStep_cases g s
  rw [heq]
  subst pool
  obtain rfl | ⟨rfl, -⟩ := hq
  · exact .same
  · exact .take

@[simp] theorem generateStep_loaded (g : Generation) (s : State) :
    (generateStep g s).vfe.loaded = s.vfe.loaded := by
  obtain ⟨w, p, rob, q, heq, -⟩ := generateStep_cases g s
  rw [heq]

@[simp] theorem stateFlushStep_loaded (w : BitVec 8) (m : BitVec 16) (s : State) :
    (stateFlushStep w m s).vfe.loaded = s.vfe.loaded := by
  unfold stateFlushStep; split <;> rfl

@[simp] theorem stateFlushStep_pool (w : BitVec 8) (m : BitVec 16) (s : State) :
    (stateFlushStep w m s).vfe.pool = s.vfe.pool := by
  unfold stateFlushStep; split <;> rfl

@[simp] theorem serveTd_loaded (q : TdReq) (h : HalfSlice) (s : State) :
    (serveTd q h s).vfe.loaded = s.vfe.loaded := by
  obtain ⟨pool, fence, heq⟩ := serveTd_cases q h s
  rw [heq]

/-- TD's acknowledge of a root without children gives its handle back (41_thread_spawner.md R205). -/
theorem serveTd_poolMove (q : TdReq) (h : HalfSlice) (s : State) :
    PoolMove s.vfe.pool (serveTd q h s).vfe.pool := by
  unfold serveTd acknowledge
  split
  · exact .same
  · dsimp only
    split
    · exact .same
    · exact .dereference _

/-- A move writes the record, checked and with a fresh pool; every other leaves it and moves the pool at most. -/
theorem Move.vfe_cases {s t : State} {e : Event} (hm : Move s e t) :
    (t.vfe.loaded = s.vfe.loaded ∧ t.vfe.record = s.vfe.record ∧ PoolMove s.vfe.pool t.vfe.pool)
      ∨ (vfeRecordInRange s.params t.vfe.record = true ∧ vfeRecordInBudget s.params t.vfe.record = true
          ∧ t.vfe.pool = HandlePool.fresh t.vfe.record.numberOfUrbEntries.toNat) := by
  cases hm with
  | vfeState _ inRange inBudget => exact .inr ⟨inRange, inBudget, rfl⟩
  | generate _ g => exact .inl ⟨by simp, by simp, generateStep_poolMove g rfl⟩
  | serve half => exact .inl ⟨by simp, by simp, serveTd_poolMove _ half s⟩
  | stateFlush => exact .inl ⟨by simp, by simp, by simpa using .same⟩
  | derefUrb => exact .inl ⟨by simp, by simp, by simpa using .dereference _⟩
  | derefNourb => exact .inl ⟨by simp, by simp, by simpa using .same⟩
  | _ => exact .inl ⟨rfl, rfl, .same⟩

/-- Settles O55: the record is written in range, within the budget and with a fresh pool, and no other move adds a handle
or loses one. -/
theorem poolStaysInAgreement : Obligations.PoolStaysInAgreement := by
  intro s t hpool hlegal hstep
  obtain ⟨agenda, count, hm⟩ := step_moves hstep
  rw [hm.keeps_params]
  obtain ⟨loaded, record, pool⟩ | ⟨inRange, inBudget, fresh⟩ := hm.vfe_cases
  · refine ⟨poolAgrees_of_poolMove loaded record pool hpool, ?_⟩
    rw [loaded, record]
    exact hlegal
  · exact ⟨poolAgrees_fresh fresh,
      fun _ => ⟨(vfeRecordInRange_iff _ _).mp inRange, (vfeRecordInBudget_iff _ _).mp inBudget⟩⟩

end Sys2Proof.Proofs
end

section
/-! SUPPORT. The reference walk of 40_vfe_and_walker.md R187: the positions of one loop, where they lie, and the
statements they settle. -/

namespace Sys2Proof.Proofs

open Sys2Proof Sys2Proof.Machine Sys2Proof.Laws

/-! ### The loops of a walk -/

theorem inBox_iff (p r : Point) : inBox p r = true ↔ 0 ≤ p.x ∧ p.x < r.x ∧ 0 ≤ p.y ∧ p.y < r.y := by
  simp only [inBox, Bool.and_eq_true, decide_eq_true_eq, and_assoc]

/-- A loop visits positions inside its box alone. -/
theorem inBox_of_mem_march {v box p start : Point} {fuel : Nat} (h : p ∈ march fuel start v box) :
    inBox p box = true := by
  induction fuel generalizing start with
  | zero => cases h
  | succ fuel ih =>
    unfold march at h
    split at h
    next inside =>
      obtain rfl | later := List.mem_cons.mp h
      · exact inside
      · exact ih later
    next => cases h

/-- The point `i` steps of `v` after `p`. -/
def pointAfter (p v : Point) (i : Nat) : Point := ⟨p.x + i * v.x, p.y + i * v.y⟩

@[simp] theorem pointAfter_zero (p v : Point) : pointAfter p v 0 = p := by simp [pointAfter]

theorem pointAfter_succ (p v : Point) (i : Nat) : pointAfter p v (i + 1) = pointAfter (p.add v) v i := by
  simp only [pointAfter, Point.add, Point.mk.injEq]
  constructor <;> push_cast <;> ring

/-- A loop whose first `n` positions lie in the box, and the next one outside, visits those `n`. -/
theorem march_eq_map_range {v box : Point} {n fuel : Nat} {p : Point} (enough : n < fuel)
    (inside : ∀ i < n, inBox (pointAfter p v i) box = true) (outside : inBox (pointAfter p v n) box = false) :
    march fuel p v box = (List.range n).map (pointAfter p v) := by
  obtain ⟨fuel, rfl⟩ : ∃ k, fuel = k + 1 := ⟨fuel - 1, by omega⟩
  induction n generalizing p fuel with
  | zero =>
    rw [pointAfter_zero] at outside
    simp [march, outside]
  | succ n ih =>
    have first : inBox p box = true := by simpa using inside 0 (Nat.succ_pos n)
    obtain ⟨fuel, rfl⟩ : ∃ k, fuel = k + 1 := ⟨fuel - 1, by omega⟩
    have later := ih (p := p.add v) (fun i hi => by simpa [← pointAfter_succ] using inside (i + 1) (by omega))
      (by simpa [← pointAfter_succ] using outside) fuel (by omega)
    rw [march, if_pos first, later, List.range_succ_eq_map]
    simp [Function.comp_def, pointAfter_succ]

/-- A loop whose second position lies outside the box visits the first alone, if that lies inside. -/
theorem march_once {v box p : Point} (second : inBox (p.add v) box = false) :
    march walkFuel p v box = if inBox p box then [p] else [] := by
  simp [walkFuel, march, second]

/-- A loop along X by unit steps from the left edge visits a row of the box. -/
theorem march_row {y : Int} {width height : Nat} (narrow : width < walkFuel) (low : 0 ≤ y) (high : y < height) :
    march walkFuel ⟨0, y⟩ ⟨1, 0⟩ ⟨width, height⟩ = (List.range width).map fun x : Nat => ⟨(x : Int), y⟩ := by
  rw [march_eq_map_range narrow]
  · simp [pointAfter]
  · intro i hi
    simp only [pointAfter, inBox_iff]
    omega
  · simp [pointAfter, inBox]

/-- A loop along Y by unit steps from the top left corner visits the left column of the box. -/
theorem march_column {width height : Nat} (short : height < walkFuel) (wide : 0 < width) :
    march walkFuel ⟨0, 0⟩ ⟨0, 1⟩ ⟨width, height⟩ = (List.range height).map fun y : Nat => ⟨0, (y : Int)⟩ := by
  rw [march_eq_map_range short]
  · simp [pointAfter]
  · intro i hi
    simp only [pointAfter, inBox_iff]
    omega
  · simp [pointAfter, inBox]

/-! ### O26: a raster walk of one block -/

/-- With one color a run of the innermost loop is run once. -/
theorem runPerColor_of_oneColor {w : WalkerParams} (one : w.colorCountMinusOne = 0) (run : List Point) :
    runPerColor w run = run.map fun p => (p, 0) := by
  simp [runPerColor, colors, one]

/-- A block as large as the frame is not cut at its origin. -/
theorem blockAt_origin {w : WalkerParams} (whole : w.blockResolution = w.globalResolution) :
    blockAt w ⟨0, 0⟩ = pointU w.globalResolution := by
  simp [blockAt, whole]

/-- The global loops, whose stride is longer than any frame, visit the origin alone; no position where the frame is
empty. -/
theorem march_longStride {v : Point} (long : v = ⟨0, 511⟩ ∨ v = ⟨511, 0⟩) (r : FieldXY 9) :
    march walkFuel ⟨0, 0⟩ v (pointU r) = if 0 < r.x.toNat ∧ 0 < r.y.toNat then [⟨0, 0⟩] else [] := by
  have hx := r.x.isLt
  have hy := r.y.isLt
  rw [march_once]
  · simp [inBox_iff, pointU]
  · rw [Bool.eq_false_iff, ne_eq, inBox_iff]
    obtain rfl | rfl := long
    all_goals
      simp only [Point.add, pointU]
      omega

/-- The walk of one block with unit steps along X inside and along Y outside: row by row. -/
theorem localWalk_raster {w : WalkerParams} (one : w.colorCountMinusOne = 0)
    (outer : w.localOuterLoopStride = ⟨0, 1⟩) (inner : w.localInnerLoopUnit = ⟨1, 0⟩)
    (whole : w.blockResolution = w.globalResolution) (wide : 0 < w.globalResolution.x.toNat) :
    localWalk w ⟨0, 0⟩
      = (List.range w.globalResolution.y.toNat).flatMap fun y =>
          (List.range w.globalResolution.x.toNat).map fun x => (⟨(x : Int), (y : Int)⟩, 0) := by
  have down : pointS w.localOuterLoopStride = ⟨0, 1⟩ := outer ▸ rfl
  have right : pointS w.localInnerLoopUnit = ⟨1, 0⟩ := inner ▸ rfl
  rw [localWalk, blockAt_origin whole, down, right, pointU, march_column (BitVec.isLt _) wide, List.flatMap_map]
  refine List.flatMap_congr fun y hy => ?_
  have row := march_row (y := y) (BitVec.isLt w.globalResolution.x) (by omega) (by simpa using hy)
  rw [row, runPerColor_of_oneColor one]
  simp [Function.comp_def, Point.add]

/-- Settles O26: the global loops stop at the origin, the local loops run through the rows. -/
theorem rasterWalkCoversFrame : Obligations.RasterWalkCoversFrame := by
  intro w single noRepel noExtra one start localStart outer inner globalOuter globalInner whole
  have across : pointS w.globalOuterLoopStride = ⟨0, 511⟩ := globalOuter ▸ rfl
  have along : pointS w.globalInnerLoopUnit = ⟨511, 0⟩ := globalInner ▸ rfl
  have aligned : axisAligned w = true := by
    simp only [axisAligned, single, noRepel, noExtra, start, localStart, across, along, outer, inner]
    decide
  rw [walkSeq, if_pos aligned, referenceWalk, across, along, march_longStride (.inl rfl)]
  split
  next inside =>
    rw [List.flatMap_singleton, march_longStride (.inr rfl), if_pos inside, List.flatMap_singleton,
      localWalk_raster one outer inner whole inside.1]
  next outside =>
    obtain hx | hy : w.globalResolution.x.toNat = 0 ∨ w.globalResolution.y.toNat = 0 := by omega
    · simp [hx]
    · simp [hy]

/-! ### O27: where the reference walk goes -/

theorem mem_referenceWalk {w : WalkerParams} {p : Point × BitVec 4} (h : p ∈ referenceWalk w) :
    ∃ g l : Point, inBox g (pointU w.globalResolution) = true ∧ inBox l (blockAt w g) = true
      ∧ p.1 = g.add l ∧ p.2 ∈ colors w := by
  simp only [referenceWalk, localWalk, runPerColor, List.mem_flatMap, List.mem_map] at h
  obtain ⟨_, _, g, hg, _, _, c, hc, _, ⟨l, hl, rfl⟩, rfl⟩ := h
  exact ⟨g, l, inBox_of_mem_march hg, inBox_of_mem_march hl, rfl, hc⟩

/-- A local block does not leave the frame (40_vfe_and_walker.md R182). -/
theorem inBox_add_of_block {w : WalkerParams} {g l : Point} (hg : inBox g (pointU w.globalResolution) = true)
    (hl : inBox l (blockAt w g) = true) : inBox (g.add l) (pointU w.globalResolution) = true := by
  simp only [inBox_iff, blockAt, Point.add] at *
  omega

theorem toNat_le_of_mem_colors {w : WalkerParams} {c : BitVec 4} (h : c ∈ colors w) :
    c.toNat ≤ w.colorCountMinusOne.toNat := by
  simp only [colors, List.mem_map, List.mem_range] at h
  obtain ⟨i, hi, rfl⟩ := h
  simp only [BitVec.toNat_ofNat]
  exact (Nat.mod_le _ _).trans (Nat.le_of_lt_succ hi)

/-- Settles O27: a position is one of a block plus one of the frame, and blocks end where the frame ends. -/
theorem referenceWalkStaysInFrame : Obligations.ReferenceWalkStaysInFrame := by
  intro w p aligned hp
  rw [walkSeq, if_pos aligned] at hp
  obtain ⟨g, l, hg, hl, position, color⟩ := mem_referenceWalk hp
  obtain ⟨xlow, xhigh, ylow, yhigh⟩ := (inBox_iff _ _).mp (inBox_add_of_block hg hl)
  rw [position]
  exact ⟨xlow, xhigh, ylow, yhigh, toNat_le_of_mem_colors color⟩

end Sys2Proof.Proofs
end

section
/-! SUPPORT. VFE at work: what each primitive command comes to when it is legal, one turn of its generation case by case,
and the statements on VFE's turns they settle. -/

namespace Sys2Proof.Proofs

open Sys2Proof Sys2Proof.Machine Sys2Proof.Laws Sys2Proof.Certificates

/-! ### The legal primitive commands -/

@[simp] theorem inlineRegs_length (l : List DWord) : (inlineRegs l).length = ceil8 l.length := by
  simp [inlineRegs]

@[simp] theorem objectPayload_length (s : State) (c : MediaObject) :
    (objectPayload s c).length = ceil8 c.inlineData.length + c.indirectDataLength.toNat / 32 := by
  simp [objectPayload, memRegs, regsOfBytes]

/-- An address below 2^29 has its bits 31:29 clear. -/
theorem bits_top_of_lt {w : DWord} (h : w.toNat < 2 ^ 29) : bits w 29 3 = 0 := by
  apply BitVec.eq_of_toNat_eq
  simp [bits, Nat.shiftRight_eq_div_pow]
  omega

theorem mediaSelected_of_media {s : State} (media : s.cs.pipeline = .media) : mediaSelected s = true := by
  simp [mediaSelected, media]

/-- Taking a command of `n` DWords, by its DWord Length. -/
theorem takeCommand_eq_dropStream (s : State) {l : BitVec 16} {n : Nat} (h : l.toNat + 2 = n) :
    s.takeCommand l = s.dropStream n := by
  rw [State.takeCommand, h]

/-- A DWord Length that counts `n` DWords is the one the opcode's length check asks for. -/
theorem eq_lengthField {l : BitVec 16} {n : Nat} (h : l.toNat + 2 = n) : l = lengthField n := by
  apply BitVec.eq_of_toNat_eq
  have := l.isLt
  simp only [lengthField, BitVec.toNat_ofNat]
  omega

/-- A legal MEDIA_OBJECT leaves the stream and begins its one position. -/
theorem exec_mediaObject {s : State} {c : MediaObject} (ready : ObjectReady s c) :
    exec (.mediaObject c) s
      = .next (startGeneration (objectControl c) (objectPayload s c)
          [⟨c.scoreboardX, c.scoreboardY, c.scoreboardColor⟩] (s.dropStream (c.inlineData.length + 6))) := by
  obtain ⟨media, inlineMax, length, descriptor, half, granule, indirectMax, short, indirect, fits⟩ := ready
  have total : c.dwordLength.toNat + 2 = c.inlineData.length + 6 := by omega
  have legal : (Instr.mediaObject c).wellFormed = true := by
    simpa [Instr.wellFormed, maxInlineDWords, inlineMax] using eq_lengthField (by omega)
  have indirectReady : IndirectReady s c :=
    indirect.imp id fun ⟨low, aligned, bound⟩ => ⟨bits_top_of_lt low, aligned, bound⟩
  simp only [exec, execMediaObject, require_next, requireDescriptor_next, requireIndirect_next,
    takeCommand_eq_dropStream s total]
  exact ⟨mediaSelected_of_media media, legal, descriptor, by simpa using half, by simpa using granule,
    by simpa using indirectMax, by simpa using short, indirectReady, by simpa [payloadFits] using fits, trivial⟩

/-- A legal MEDIA_OBJECT_PRT after a flush leaves the stream, is noted and begins its one position. -/
theorem exec_mediaObjectPrt {s : State} {c : MediaObjectPrt} (ready : PrtReady s c)
    (flushed : s.vfe.primSinceFlush = false) :
    exec (.mediaObjectPrt c) s = .next (generatePrt c false (s.dropStream 16)) := by
  obtain ⟨media, inlineLength, length, descriptor, fits⟩ := ready
  have total : c.dwordLength.toNat + 2 = 16 := by omega
  have legal : (Instr.mediaObjectPrt c).wellFormed = true := by
    simpa [Instr.wellFormed, prtInlineDWords, inlineLength] using eq_lengthField total
  simp only [exec, execMediaObjectPrt, requirePrt, require_next, requireDescriptor_next,
    takeCommand_eq_dropStream s total]
  exact ⟨mediaSelected_of_media media, legal, descriptor, by simpa [payloadFits, inlineLength, ceil8] using fits,
    by simpa using flushed, trivial⟩

/-- A legal MEDIA_OBJECT_WALKER leaves the stream and begins the positions of its walk. -/
theorem exec_mediaObjectWalker {s : State} {c : MediaObjectWalker} (ready : WalkerReady s c)
    (fits : walkSeq c.walk = [] ∨ ceil8 c.inlineData.length ≤ s.vfe.record.urbEntryAllocationSize.toNat) :
    exec (.mediaObjectWalker c) s
      = .next (startGeneration (walkerControl c) (inlineRegs c.inlineData) ((walkSeq c.walk).map walkPos)
          (s.dropStream (c.inlineData.length + 17))) := by
  obtain ⟨media, inlineMax, length, descriptor, noIndirect, notBoth, positions⟩ := ready
  have total : c.dwordLength.toNat + 2 = c.inlineData.length + 17 := by omega
  have legal : (Instr.mediaObjectWalker c).wellFormed = true := by
    simpa [Instr.wellFormed, maxInlineDWords, inlineMax] using eq_lengthField (by omega)
  simp only [exec, execMediaObjectWalker, require_next, requireDescriptor_next, takeCommand_eq_dropStream s total]
  exact ⟨mediaSelected_of_media media, legal, descriptor, by simpa using noIndirect,
    by simpa only [Bool.not_eq_true', Bool.eq_false_iff, ne_eq, Bool.and_eq_true] using notBoth,
    by simpa [positionFits, and_assoc] using positions, by simpa [payloadFits] using fits, trivial⟩

/-! ### One turn of a generation -/

/-- With room in RootQ the request goes there, and what is left stays with VFE. -/
theorem offerRoot_of_room {s : State} (g : Generation) (r : RootReq)
    (room : s.ts.rootQ.length < Config.rootQueueDepth) :
    offerRoot g r s
      = (s.enqueueRoot r).setWork (if g.todo = [] then none else some (.generate { g with assembled := none })) := by
  simp [offerRoot, rootQHasRoom, room, Generation.left]

/-- With RootQ full the request stays with VFE. -/
theorem offerRoot_of_full {s : State} (g : Generation) (r : RootReq)
    (full : Config.rootQueueDepth ≤ s.ts.rootQ.length) :
    offerRoot g r s = s.setWork (some (.generate { g with assembled := some r })) := by
  simp [offerRoot, rootQHasRoom, Nat.not_lt.mpr full]

/-- A request that has its handle and payload is offered to RootQ again. -/
theorem generateStep_of_assembled {s : State} {g : Generation} {r : RootReq} (assembled : g.assembled = some r) :
    generateStep g s = offerRoot g r s := by
  simp [generateStep, assembled]

section Position

variable {s : State} {g : Generation} {p : WalkPos} {rest : List WalkPos} (unassembled : g.assembled = none)
  (todo : g.todo = p :: rest)

include unassembled todo

/-- With a free head handle the first position gets it, its payload is written, and its request is offered to RootQ. -/
theorem generateStep_of_headFree (free : s.vfe.pool.headFree = true) :
    generateStep g s = offerRoot { g with todo := rest } (rootReqFor s g p) (s.writePayload g.payload) := by
  simp [generateStep, unassembled, todo, free]

/-- Without a free head handle VFE keeps its work and nothing else happens. -/
theorem generateStep_of_headBusy (busy : s.vfe.pool.headFree = false) :
    generateStep g s = s.setWork (some (.generate g)) := by
  simp [generateStep, unassembled, todo, busy]

end Position

/-! ### O6: VFE takes a command -/

/-- Settles O6: the next event is VFE's turn, and VFE, free and not held, decodes the head of the stream. -/
theorem vfeStepRunsCommand : Obligations.VfeStepRunsCommand := by
  intro s events i rest agenda free noFence noSwitch decoded
  have next : nextEvent s = (.vfeTurn, { s with agenda := events }) := by simp [nextEvent, agenda]
  have unheld : vfeHeld { s with agenda := events } = false := by simp [vfeHeld, noFence, noSwitch]
  calc step s
      = vfeTurn { s with agenda := events } := by rw [step, oneStep, next, handle]
    _ = vfeTake { s with agenda := events } := by simp [vfeTurn, free, unheld]
    _ = exec i { s with agenda := events } := by simp [vfeTake, decoded]

/-! ### O23: a walk goes on -/

/-- VFE goes on with a generation it has. -/
theorem vfeTurn_of_generate {s : State} {g : Generation} (work : s.vfe.work = some (.generate g)) :
    vfeTurn s = .next (generateStep g s) := by
  simp [vfeTurn, work, continueWork]

/-- To give VFE the work it has changes nothing. -/
theorem setWork_self {s : State} {w : Option VfeWork} (work : s.vfe.work = w) : s.setWork w = s := by
  subst work
  rfl

/-- Settles O23: the three cases of one turn. -/
theorem walkGoesOn : Obligations.WalkGoesOn := by
  intro s g p rest work unassembled todo
  rw [vfeTurn_of_generate work]
  refine ⟨fun free room => ?_, fun free full => ?_, fun busy => ?_⟩
  · rw [unassembled]
    exact congrArg _ ((generateStep_of_headFree unassembled todo free).trans (offerRoot_of_room _ _ room))
  · exact congrArg _ ((generateStep_of_headFree unassembled todo free).trans (offerRoot_of_full _ _ full))
  · rw [generateStep_of_headBusy unassembled todo busy, setWork_self work]

/-! ### O24: no free handle -/

/-- VFE's two notes that a primitive command has run. -/
def notePrimitive (s : State) : State :=
  { s with vfe := { s.vfe with primSinceFlush := true, primSinceStateFlush := true } }

theorem startGeneration_eq (control : RootControl) (payload : List Reg) (todo : List WalkPos) (s : State) :
    startGeneration control payload todo s = generateStep ⟨control, payload, todo, none⟩ (notePrimitive s) := rfl

/-- Without a free head handle a command's generation waits whole. -/
theorem startGeneration_of_headBusy {s : State} (control : RootControl) (payload : List Reg) (p : WalkPos)
    (rest : List WalkPos) (busy : s.vfe.pool.headFree = false) :
    startGeneration control payload (p :: rest) s
      = { s with vfe := { s.vfe with work := some (.generate ⟨control, payload, p :: rest, none⟩)
                                     primSinceFlush := true, primSinceStateFlush := true } } := by
  rw [startGeneration_eq]
  exact generateStep_of_headBusy rfl rfl busy

/-- Settles O24: each command is taken from the stream, and its generation finds no handle. -/
theorem primitiveWaitsForHandle : Obligations.PrimitiveWaitsForHandle := by
  intro s busy
  refine ⟨fun c ready => ?_, fun c ready flushed => ?_, fun c ready nonempty fits => ?_⟩
  · exact (exec_mediaObject ready).trans (congrArg _ (startGeneration_of_headBusy _ _ _ _ busy))
  · exact (exec_mediaObjectPrt ready flushed).trans (congrArg _ (startGeneration_of_headBusy _ _ _ _ busy))
  · rw [exec_mediaObjectWalker ready (.inr fits)]
    obtain ⟨p, rest, walk⟩ := List.exists_cons_of_ne_nil nonempty
    rw [walk]
    exact congrArg _ (startGeneration_of_headBusy _ _ _ _ busy)

/-! ### O25: RootQ full -/

/-- With RootQ full a command's first request gets its handle and its payload and waits before the other positions. -/
theorem startGeneration_of_full {s : State} (control : RootControl) {payload : List Reg} {n : Nat} (p : WalkPos)
    (rest : List WalkPos) (length : payload.length = n) (free : s.vfe.pool.headFree = true)
    (full : Config.rootQueueDepth ≤ s.ts.rootQ.length) :
    startGeneration control payload (p :: rest) s
      = { s with
          vfe := { s.vfe with
                   pool := s.vfe.pool.take
                   work := some (.generate ⟨control, payload, rest,
                     some ⟨control, p, s.vfe.pool.headHandle, n, s.vfe.record.scratchSpaceBasePointer,
                       s.vfe.record.perThreadScratchSpace⟩⟩)
                   primSinceFlush := true, primSinceStateFlush := true }
          rob := s.rob.writeRun s.params.robRegisters (urbEntryBase s.vfe.record s.vfe.pool.headHandle) payload } := by
  subst length
  rw [startGeneration_eq, generateStep_of_headFree (s := notePrimitive s) rfl rfl free]
  exact offerRoot_of_full _ _ full

/-- Settles O25: each command takes its handle and waits; the turns after it offer its request again. -/
theorem primitiveWaitsForRootQ : Obligations.PrimitiveWaitsForRootQ := by
  refine ⟨fun s free full => ⟨fun c ready => ?_, fun c ready flushed => ?_, fun c p rest ready walk fits => ?_⟩,
    fun s g r work assembled => ?_⟩
  · exact (exec_mediaObject ready).trans
      (congrArg _ (startGeneration_of_full _ _ _ (objectPayload_length s c) free full))
  · have ⟨_, inlineLength, _⟩ := ready
    have length : (inlineRegs c.inlineData).length = 2 := by simp [inlineLength, ceil8]
    exact (exec_mediaObjectPrt ready flushed).trans (congrArg _ (startGeneration_of_full _ _ _ length free full))
  · rw [exec_mediaObjectWalker ready (.inr fits), walk]
    exact congrArg _ (startGeneration_of_full _ _ _ (inlineRegs_length _) free full)
  · rw [vfeTurn_of_generate work, generateStep_of_assembled assembled]
    refine ⟨fun room => ?_, fun full => ?_⟩
    · rw [offerRoot_of_room _ _ room]
      rfl
    · rw [offerRoot_of_full _ _ full, ← assembled, setWork_self work]

end Sys2Proof.Proofs
end

section
/-! SUPPORT. The Thread Spawner's turns: when a root may start, what a started root comes to, what the head of RootQ and
a request set aside wait for, the image of a child, and the statements of 41_thread_spawner.md on TS's turn they settle. -/

namespace Sys2Proof.Proofs

open Sys2Proof Sys2Proof.Machine Sys2Proof.Laws Sys2Proof.Certificates

/-! ### When a root may start -/

/-- The model's check of a root request is the statements' condition. -/
theorem rootEligible_iff_mayStart (s : State) (r : RootReq) : rootEligible s r = true ↔ MayStart s r :=
  rootEligible_iff s r

/-- A request whose dependencies are clear may start as soon as there is room for a root. -/
theorem rootRoom_iff_of_clear {s : State} {r : RootReq}
    (clear : dependenciesClear s.vfe.record s.ts.tracking r = true) : rootRoom s = true ↔ MayStart s r := by
  rw [← rootEligible_iff_mayStart]
  simp [rootEligible, scoreboardHolds, clear]

/-- No synchronized root waits exactly when the head of RootQ is none or may not start. -/
theorem waitingSynchronizedRoot_isNone_iff {s : State} {r : RootReq} {queue : List RootReq}
    (head : s.ts.rootQ = r :: queue) : (waitingSynchronizedRoot s).isNone = true
      ↔ r.control.threadSync = false ∨ ¬ MayStart s r := by
  simp only [waitingSynchronizedRoot, head, ← rootEligible_iff_mayStart]
  split
  next goes =>
    obtain ⟨sync, may⟩ := Bool.and_eq_true_iff.mp goes
    simp [sync, may]
  next stays =>
    rw [Bool.and_eq_true, not_and_or, Bool.not_eq_true] at stays
    simpa using stays

/-- A spawn-root message holds ChildQ exactly while no synchronized root waits for it. -/
theorem childQHeld_iff (s : State) (m : SendMsg) : childQHeld s m = true
    ↔ isSpawnRoot m = true ∧ m.eot = false ∧ (waitingSynchronizedRoot s).isNone = true := by
  simp only [childQHeld, Bool.and_eq_true, Bool.not_eq_true', and_assoc]

/-! ### A started root -/

/-- The registers a spawn-root message passes are those the statements name. -/
theorem extraRegs_eq_passedRegs (s : State) (x : Option UrbRef) : extraRegs s x = passedRegs s x := by
  cases x with
  | none => rfl
  | some u => simp [extraRegs, passedRegs, namedUrbRegs, HandlePool.has]

/-- What TS remembers of a root is the record the statements name, with the FFTID and the slot it picks. -/
theorem outstandingFor_eq_rememberedAs (s : State) (r : RootReq) :
    outstandingFor s r = rememberedAs s r (pickedFftid s) (pickedSlot s) := by
  simp [outstandingFor, rememberedAs, madeEntry, scoreboardActive, RootReq.entryOf]

/-- A root started while TS was as `ts` says is started with the ids TS then picks. -/
theorem startRoot_eq_startedAs (s : State) (ts : Spawner) (r : RootReq) (x : Option UrbRef) :
    startRoot { s with ts := ts } r x
      = startedAs s r (pickedFftid { s with ts := ts }) (pickedSlot { s with ts := ts }) x ts
          (startRoot { s with ts := ts } r x).freeCount := by
  have entry : madeEntry { s with ts := ts } r = (outstandingFor { s with ts := ts } r).entry := rfl
  simp only [startRoot, rootTdReq, rootImage, entry, outstandingFor_eq_rememberedAs, extraRegs_eq_passedRegs]
  rfl

/-- Which registers the image of a root has depends on TS in the header alone. -/
theorem rootImage_length_ts (s : State) (ts : Spawner) (r : RootReq) (x : Option UrbRef) :
    (rootImage { s with ts := ts } r x).length = (rootImage s r x).length := by
  simp only [rootImage, List.length_cons]
  rfl

/-- A request that fits and has left its queues is started, with a free FFTID and a free slot
(41_thread_spawner.md R208, R209, R214). -/
theorem dispatchRoot_starts {s : State} {r : RootReq} {x : Option UrbRef} (rq : List RootReq) (aside : List AsideReq)
    (cq : List SendMsg) (may : MayStart s r) (fits : RootFits s r x) :
    ∃ t f k, dispatchRoot { s with ts := { s.ts with rootQ := rq, aside := aside, childQ := cq } } r x = .next t
      ∧ f ∈ freeFftids s.ts ∧ k ∈ freeScratchSlots s.vfe.record s.ts
      ∧ t = startedAs s r f k x { s.ts with rootQ := rq, aside := aside, childQ := cq } t.freeCount := by
  obtain ⟨-, -, -, someFftid, someSlot, -⟩ := may
  obtain ⟨constants, image⟩ := fits
  refine ⟨_, _, _, ?_, pick_mem 0 s.freeCount someFftid, pick_mem 0 (s.freeCount + 1) someSlot,
    startRoot_eq_startedAs s _ r x⟩
  simp only [dispatchRoot, require_next, constantsInRange_iff, decide_eq_true_eq, rootImage_length_ts]
  exact ⟨constants, image, trivial⟩

/-! ### O38: RootQ and the requests set aside -/

/-- TS serves RootQ when ChildQ is empty, or held by a spawn-root message that finds no synchronized root. -/
theorem tsTurn_of_childQ_waiting {s : State} (waiting : s.ts.childQ = []
      ∨ ∃ m rest, s.ts.childQ = m :: rest ∧ childQHeld s m = true) : tsTurn s = serveRootQ s := by
  obtain empty | ⟨m, rest, first, held⟩ := waiting
  · simp [tsTurn, empty]
  · simp [tsTurn, first, held]

section Head

variable {s : State} {r : RootReq} {queue : List RootReq} (head : s.ts.rootQ = r :: queue)

include head

/-- A head of RootQ that is a synchronized root, or may not start, stays. -/
theorem serveRootQ_of_held (held : r.control.threadSync = true ∨ ¬ MayStart s r) : serveRootQ s = .next s := by
  have stays : ¬ (!r.control.threadSync && rootEligible s r) = true := by
    rw [Bool.and_eq_true, rootEligible_iff_mayStart, Bool.not_eq_true']
    rintro ⟨noSync, may⟩
    exact held.elim (by simp [noSync]) (absurd may)
  simp [serveRootQ, head, stays]

/-- A head of RootQ that is no synchronized root and may start leaves RootQ. -/
theorem serveRootQ_of_free (noSync : r.control.threadSync = false) (may : MayStart s r) :
    serveRootQ s = releaseRoot { s with ts := { s.ts with rootQ := queue } } r none := by
  have eligible : rootEligible s r = true := (rootEligible_iff_mayStart s r).mpr may
  simp [serveRootQ, head, noSync, eligible, State.popRootQ]

end Head

/-- A request that the non-stalling scoreboard need not keep is dispatched as it leaves RootQ. -/
theorem releaseRoot_of_notSetAside {s : State} {r : RootReq} (ts : Spawner) (x : Option UrbRef)
    (tracking : ts.tracking = s.ts.tracking) (free : NotSetAside s r) :
    releaseRoot { s with ts := ts } r x = dispatchRoot { s with ts := ts } r x := by
  have stays : ¬ scoreboardSetsAside { s with ts := ts } r = true := by
    simpa [scoreboardSetsAside, tracking] using free
  rw [releaseRoot, if_neg stays]

/-- A request that the non-stalling scoreboard must keep is set aside as it leaves RootQ (41_thread_spawner.md R232). -/
theorem releaseRoot_of_setAside {s : State} {r : RootReq} (x : Option UrbRef)
    (nonStalling : s.vfe.record.scoreboardType = true)
    (blocked : dependenciesClear s.vfe.record s.ts.tracking r = false) :
    releaseRoot s r x = .next { s with ts := { s.ts with aside := s.ts.aside ++ [⟨r, x⟩] } } := by
  simp [releaseRoot, scoreboardSetsAside, nonStalling, blocked]

section Aside

variable {s : State} {index : Nat} {a : AsideReq} (found : s.ts.aside[index]? = some a)

include found

/-- A request set aside stays while no root may start or one of its dependencies is tracked. -/
theorem tsAside_of_held (held : ¬ MayStart s a.req ∨ dependenciesClear s.vfe.record s.ts.tracking a.req = false) :
    tsAside index s = .next s := by
  have stays : ¬ (rootRoom s && dependenciesClear s.vfe.record s.ts.tracking a.req) = true := by
    rw [Bool.and_eq_true]
    rintro ⟨room, clear⟩
    exact held.elim (absurd ((rootRoom_iff_of_clear clear).mp room)) (by simp [clear])
  simp only [tsAside, found, if_neg stays]

/-- A request set aside that may start and whose dependencies are clear is dispatched. -/
theorem tsAside_of_clear (may : MayStart s a.req)
    (clear : dependenciesClear s.vfe.record s.ts.tracking a.req = true) :
    tsAside index s
      = dispatchRoot { s with ts := { s.ts with aside := s.ts.aside.eraseIdx index } } a.req a.extra := by
  simp [tsAside, found, (rootRoom_iff_of_clear clear).mpr may, clear]

end Aside

/-- Settles O38: TS's turn comes to RootQ, whose head stays, is set aside or is dispatched; a request set aside stays or
is dispatched. -/
theorem rootQServed : Obligations.RootQServed := by
  refine ⟨fun s r queue head waiting => ?_, fun s index a found => ⟨tsAside_of_held found, fun may clear fits => ?_⟩⟩
  · have turn : tsTurn s = serveRootQ s := by
      refine tsTurn_of_childQ_waiting (waiting.imp id ?_)
      rintro ⟨m, rest, first, spawnRoot, noEot, noRoot⟩
      exact ⟨m, rest, first,
        (childQHeld_iff s m).mpr ⟨spawnRoot, noEot, (waitingSynchronizedRoot_isNone_iff head).mpr noRoot⟩⟩
    rw [turn]
    refine ⟨serveRootQ_of_held head, fun noSync may nonStalling blocked => ?_, fun noSync may free fits => ?_⟩
    · rw [serveRootQ_of_free head noSync may]
      exact releaseRoot_of_setAside none nonStalling blocked
    · rw [serveRootQ_of_free head noSync may, releaseRoot_of_notSetAside { s.ts with rootQ := queue } none rfl free]
      exact dispatchRoot_starts queue s.ts.aside s.ts.childQ may fits
  · rw [tsAside_of_clear found may clear]
    exact dispatchRoot_starts s.ts.rootQ _ s.ts.childQ may fits

/-! ### O7: TS takes a message -/

/-- Settles O7: the next event is TS's turn, and the message at the head of ChildQ does not hold it. -/
theorem tsStepRunsMessage : Obligations.TsStepRunsMessage := by
  intro s events m queue i agenda first decoded goes
  have next : nextEvent s = (.tsTurn, { s with agenda := events }) := by simp [nextEvent, agenda]
  have unheld : childQHeld { s with agenda := events } m = false := by
    rw [← Bool.not_eq_true, childQHeld_iff]
    rintro ⟨spawnRoot, noEot, noRoot⟩
    obtain ⟨r, roots, head, sync, may⟩ := goes spawnRoot noEot
    have held := (waitingSynchronizedRoot_isNone_iff (s := { s with agenda := events }) head).mp noRoot
    exact held.elim (by simp [sync]) (absurd may)
  calc step s
      = tsTurn { s with agenda := events } := by rw [step, oneStep, next, handle]
    _ = serveMessage m { s with agenda := events } := tsTurn_serves first unheld
    _ = exec i { s with agenda := events } := by simp [serveMessage, decoded]

/-! ### O29: the image of a child -/

/-- Register `i` of a run of a handle the pool has, counted from the run's beginning. -/
theorem namedUrbRegs_getD {v : Vfe} {h : BitVec 16} (has : v.pool.has h = true) (rob : Rob) (offset : Nat) {n i : Nat}
    (free : Nat) (inside : i < n) :
    (namedUrbRegs v rob h offset n free).getD i 0 = rob.read (urbEntryBase v.record h + offset + i) := by
  simp [namedUrbRegs_of_has has, urbRegs, inside]

@[simp] theorem curbeRegs_length (rob : Rob) (d : InterfaceDescriptor) (free : Nat) :
    (curbeRegs rob d free).length = d.constantUrbReadLength.toNat := by
  simp [curbeRegs]

/-- Constant `i` of a descriptor whose constants the last load defined (42_state_commands.md R268). -/
theorem curbeRegs_getD {rob : Rob} {d : InterfaceDescriptor} (free : Nat) {i : Nat}
    (inside : i < d.constantUrbReadLength.toNat) (defined : d.constantUrbReadOffset.toNat + i < rob.curbeDefined) :
    (curbeRegs rob d free).getD i 0 = rob.read (32 + d.constantUrbReadOffset.toNat + i) := by
  simp [curbeRegs, curbeReg, inside, defined, Config.robReservedRegisters, Nat.add_assoc]

/-- Without older contents a child's constants are read from the ROB. -/
theorem childCurbeRob_of_noStale {s : State} (noStale : s.stale = []) : childCurbeRob s = s.rob := by
  simp [childCurbeRob, noStale, pick]

/-- Without older contents a child's descriptor is read from the ROB. -/
theorem childDescriptor_of_noStale {s : State} {m : MsgFields} (noStale : s.stale = [])
    (loaded : m.interfaceDescriptorOffset.toNat < s.rob.idtCount) :
    childDescriptor s m = descriptorOf (s.rob.read m.interfaceDescriptorOffset.toNat) := by
  simp [childDescriptor, childDescriptorReg, childDescriptorRob, versionsWith, noStale, loaded, pick]

/-- Settles O29: of the three runs of the image each register is found by the lengths of the runs before it. -/
theorem childImageContents : Obligations.ChildImageContents := by
  intro m s d noStale hd defined loaded
  have image : childImage s m
      = namedUrbRegs s.vfe s.rob m.handle m.offset.toNat 1 (s.freeCount + 2)
        ++ (curbeRegs s.rob d (s.freeCount + 2)
          ++ namedUrbRegs s.vfe s.rob m.handle (m.offset.toNat + 1) m.length.toNat (s.freeCount + 3)) := by
    rw [childImage, childCurbeRob_of_noStale noStale, childDescriptor_of_noStale noStale loaded, ← hd,
      List.append_assoc]
  rw [image]
  refine ⟨by simp [Nat.add_assoc], fun has => ?_, fun i hi => ?_, fun i hi has => ?_⟩
  · rw [List.getD_append _ _ _ _ (by simp)]
    exact namedUrbRegs_getD has s.rob _ _ Nat.one_pos
  · rw [List.getD_append_right _ _ _ _ (by simp), namedUrbRegs_length, Nat.add_sub_cancel_left,
      List.getD_append _ _ _ _ (by simpa using hi)]
    exact curbeRegs_getD _ hi (by omega)
  · rw [List.getD_append_right _ _ _ _ (by simp; omega), namedUrbRegs_length, Nat.add_assoc, Nat.add_sub_cancel_left,
      List.getD_append_right _ _ _ _ (by simp), curbeRegs_length, Nat.add_sub_cancel_left]
    exact namedUrbRegs_getD has s.rob _ _ hi

/-! ### O42: the scoreboard -/

/-- The dependency of scoreboard `n`, part by part. -/
theorem dependency_eq_iff (v : VfeRecord) (r : RootReq) (n : Fin 8) (d : SbInstance) : dependency v r n = d ↔
    d.x = (r.position.x.toNat : Int) + v.deltas[n].x.toInt
      ∧ d.y = (r.position.y.toNat : Int) + v.deltas[n].y.toInt ∧ d.color = r.position.color := by
  rw [eq_comm]
  cases d
  exact Iff.of_eq (SbInstance.mk.injEq ..)

/-- Settles O42: the scoreboard acts on the request or not, and each enabled one has its dependency. -/
theorem scoreboardDependencies : Obligations.ScoreboardDependencies := by
  intro v r d
  simp only [← dependency_eq_iff]
  unfold dependencies
  split
  next active =>
    obtain ⟨enabled, used⟩ := Bool.and_eq_true_iff.mp active
    simp [enabled, used, and_assoc]
  next inactive =>
    simp only [scoreboardActive, Bool.and_eq_true] at inactive
    simp only [List.not_mem_nil, false_iff]
    exact fun ⟨enabled, used, _⟩ => inactive ⟨enabled, used⟩

end Sys2Proof.Proofs
end

section
/-! SUPPORT. The root limit and the PRT fence, by one case analysis over `Move` each; TD's service and the message bus;
and the statements of 41_thread_spawner.md they settle. -/

namespace Sys2Proof.Proofs

open Sys2Proof Sys2Proof.Machine Sys2Proof.Laws

/-! ### O41: the root limit -/

/-- The end of a root adds none to the count. -/
theorem endRoot_rootCount_le (s : State) (eot : Bool) (o : Outstanding) :
    (s.endRoot eot o).ts.rootCount ≤ s.ts.rootCount := by
  unfold State.endRoot
  split
  · exact Nat.sub_le _ _
  · exact Nat.le_refl _

/-- The count of outstanding roots rises only where a root is started, by one and with room. -/
theorem Move.rootCount_cases {s t : State} {e : Event} (hm : Move s e t) : t.ts.rootCount ≤ s.ts.rootCount
    ∨ t.ts.rootCount = s.ts.rootCount + 1 ∧ rootRoom s = true := by
  cases hm with
  | startRoot _ r x _ _ room => exact .inr ⟨rfl, room⟩
  | derefUrb => exact .inl (endRoot_rootCount_le _ _ _)
  | derefNourb => exact .inl (endRoot_rootCount_le _ _ _)
  | generate _ g =>
    obtain ⟨q, hq, -⟩ := generateStep_ts g _
    exact .inl (by rw [hq])
  | stateFlush => exact .inl (by rw [stateFlushStep_ts])
  | serve half =>
    obtain ⟨pool, fence, heq⟩ := serveTd_cases _ half s
    exact .inl (by rw [heq])
  | _ => exact .inl (Nat.le_refl _)

/-- Settles O41: the one move that raises the count has room for a root. -/
theorem rootLimitKept : Obligations.RootLimitKept := by
  intro s t hstep more
  obtain ⟨agenda, count, hm⟩ := step_moves hstep
  obtain fewer | ⟨one, room⟩ := hm.rootCount_cases
  · exact absurd more (Nat.not_lt.mpr fewer)
  · simp only [rootRoom, Bool.and_eq_true, decide_eq_true_eq, bne_iff_ne, Bool.not_eq_true'] at room
    obtain ⟨⟨⟨⟨limit, noFence⟩, noPreempt⟩, -⟩, -⟩ := room
    exact ⟨one, limit, noFence, noPreempt⟩

/-! ### O47: the PRT fence -/

/-- The end of a root leaves the fence alone. -/
@[simp] theorem endRoot_fence (s : State) (eot : Bool) (o : Outstanding) :
    (s.endRoot eot o).ts.fence = s.ts.fence := by
  unfold State.endRoot; split <;> rfl

/-- TD's acknowledge sets a fence or leaves it (41_thread_spawner.md R205). -/
theorem fenceAfter_cases (a : RootAck) (f : Fence) : fenceAfter a f = f ∨ fenceAfter a f ≠ .none := by
  unfold fenceAfter
  split
  · split
    · exact .inr (by decide)
    · exact .inr (by decide)
  · exact .inl rfl

/-- The fence after TD has served a request. -/
theorem serveTd_fence (q : TdReq) (h : HalfSlice) (s : State) : (serveTd q h s).ts.fence =
    match q.kind with
    | .child => s.ts.fence
    | .root a => fenceAfter a s.ts.fence := by
  unfold serveTd acknowledge
  cases q.kind with
  | child => rfl
  | root a => cases children : a.childrenPresent <;> simp [children]

/-- A move leaves the fence, sets it, accepts a spawn message or completes a switch. -/
theorem Move.fence_cases {s t : State} {e : Event} (hm : Move s e t) : t.ts.fence = s.ts.fence ∨ t.ts.fence ≠ .none
    ∨ (∃ id th m, e = .busAccept id ∧ threadOf s.td id = some th ∧ th.pending = some m ∧ isSpawn m = true)
    ∨ ∃ stream, e = .switchComplete stream := by
  cases hm with
  | @accept id th m found held =>
    by_cases spawn : isSpawn m = true
    · exact .inr (.inr (.inl ⟨id, th, m, rfl, found, held, spawn⟩))
    · exact .inl (if_neg spawn)
  | switchComplete stream => exact .inr (.inr (.inr ⟨stream, rfl⟩))
  | @serve half q =>
    rw [serveTd_fence]
    cases q.kind with
    | child => exact .inl rfl
    | root a => exact (fenceAfter_cases a s.ts.fence).imp id .inl
  | generate _ g =>
    obtain ⟨q, hq, -⟩ := generateStep_ts g _
    exact .inl (by rw [hq])
  | stateFlush => exact .inl (by rw [stateFlushStep_ts])
  | derefUrb => exact .inl (endRoot_fence _ _ _)
  | derefNourb => exact .inl (endRoot_fence _ _ _)
  | _ => exact .inl rfl

/-- Settles O47: a fence that was set and is clear was neither left nor set. -/
theorem fenceClearedOnlyBySpawn : Obligations.FenceClearedOnlyBySpawn := by
  intro s t hstep wasSet cleared
  obtain ⟨agenda, count, hm⟩ := step_moves hstep
  obtain same | stays | cause := hm.fence_cases
  · exact absurd (same.symm.trans cleared) wasSet
  · exact absurd cleared stays
  · exact cause

/-! ### O43: TD serves a request -/

/-- The half-slices a request may run on (43_primitive_commands.md R305). -/
theorem halfSliceFits_iff (select : BitVec 2) (h : HalfSlice) : halfSliceFits select h = true ↔
    select = 0 ∨ (select = 1 ∧ h = .zero) ∨ (select = 2 ∧ h = .one) := by
  cases h <;> simp [halfSliceFits]

/-- TD's first request is served with a free slot of a half-slice it may run on. -/
theorem tdTurn_of_fits {s : State} {q : TdReq} {queue : List TdReq} {h : HalfSlice} (first : s.td.queue = q :: queue)
    (free : 0 < s.td.freeSlots) (fits : halfSliceFits q.halfSlice h = true) : tdTurn h s = serveTd q h s := by
  simp [tdTurn, first, free, fits]

/-- Settles O43: the service of a child makes its thread; that of a root dereferences and sets the fence besides. -/
theorem threadDispatcherServes : Obligations.ThreadDispatcherServes := by
  intro s q queue h first free fits
  refine ⟨threadFor s q h, ?_, rfl, rfl, rfl, rfl, rfl, rfl⟩
  rw [tdTurn_of_fits first free ((halfSliceFits_iff _ _).mpr fits), serveTd, first]
  cases q.kind with
  | child => rfl
  | root a =>
    cases children : a.childrenPresent <;>
      simp [acknowledge, fenceAfter, children, State.dereference, HandlePool.dereference]

/-! ### O46: the message bus -/

/-- The bus looks at the room in ChildQ when a thread is held with a message. -/
theorem busAccept_of_held {s : State} {id : Nat} {th : Thread} {m : SendMsg} (found : threadOf s.td id = some th)
    (held : th.pending = some m) : busAccept id s =
      if childQEntries s < s.params.childQueueDepth then
        require (messageMbz m) .reservedBits (.next (acceptMessage th m s))
      else .next s := by
  simp [busAccept, found, held]

/-- Settles O46: ChildQ is full or has room. -/
theorem messageAccepted : Obligations.MessageAccepted := by
  intro s th m found held
  rw [busAccept_of_held found held]
  refine ⟨fun full => if_neg (Nat.not_lt.mpr full), fun room mbz => ?_⟩
  rw [childQEntries, if_pos room, mbz, require_true]
  simp [acceptMessage, isSpawn, Dispatcher.setThread]

end Sys2Proof.Proofs
end

section
/-! SUPPORT. The state commands: the bytes of a register read from memory, a run of registers in the ROB, what each of
the five commands comes to when it is legal and which of its checks refuses it; and the statements of
42_state_commands.md they settle. -/

namespace Sys2Proof.Proofs

open Sys2Proof Sys2Proof.Machine Sys2Proof.Laws Sys2Proof.Certificates

/-! ### The bytes of a register -/

/-- Byte `k` of a DWord read from memory (20_memory.md R90). -/
theorem dwordOfBytes_byte (byteAt : Nat → Byte) (start : Nat) {k : Nat} (hk : k < 4) :
    (dwordOfBytes byteAt start).extractLsb' (8 * k) 8 = byteAt (start + k) := by
  interval_cases k <;>
    simp (disch := omega) [-Nat.reduceAdd, dwordOfBytes, BitVec.extractLsb'_append_eq_of_add_le,
      BitVec.extractLsb'_append_eq_of_le]

/-- A byte of a register is a byte of one of its DWords. -/
theorem byteOf_eq_dword (r : Reg) (b : Nat) :
    byteOf r b = (r.dword (b / 4)).extractLsb' (8 * (b % 4)) 8 := by
  apply BitVec.eq_of_getLsbD_eq
  intro i hi
  have inDWord : 8 * (b % 4) + i < 32 := by omega
  have place : 32 * (b / 4) + (8 * (b % 4) + i) = 8 * b + i := by omega
  simp [byteOf, Reg.dword, hi, inDWord, place]

/-- Byte `b` of a register read from memory (20_memory.md R90). -/
theorem byteOf_regOfBytes (byteAt : Nat → Byte) (start : Nat) {b : Nat} (hb : b < 32) :
    byteOf (regOfBytes byteAt start) b = byteAt (start + b) := by
  rw [byteOf_eq_dword, regOfBytes, dword_ofDWords _ (by omega), dwordOfBytes_byte _ _ (Nat.mod_lt _ (by decide))]
  exact congrArg byteAt (by omega)

/-! ### A run of registers in the ROB -/

/-- A run of ROB writes changes nothing but the registers. -/
theorem rob_writeRun_eq (rob : Rob) (size r : Nat) (vs : List Reg) :
    rob.writeRun size r vs = { rob with regs := (rob.writeRun size r vs).regs } := by
  rw [Rob.mk.injEq]
  exact ⟨rfl, rob_writeRun_idtCount .., rob_writeRun_curbeLength .., rob_writeRun_curbeDefined ..⟩

/-- A ROB write leaves every other register alone, whether the ROB has the written one or not. -/
theorem rob_read_write_of_ne {rob : Rob} (h : Sparse.wf rob.regs = true) (size : Nat) {r b : Nat} (v : Reg)
    (ne : b ≠ r) : (rob.write size r v).read b = rob.read b := by
  by_cases hr : r < size
  · rw [rob_read_write h hr, if_neg ne]
  · rw [Rob.write, if_neg hr]

/-- A run of ROB writes leaves the registers outside the run alone. -/
theorem rob_read_writeRun_outside (size : Nat) (vs : List Reg) : ∀ {rob : Rob} {r b : Nat},
    Sparse.wf rob.regs = true → (b < r ∨ r + vs.length ≤ b) → (rob.writeRun size r vs).read b = rob.read b := by
  induction vs with
  | nil => intros; rfl
  | cons v vs ih =>
    intro rob r b wf outside
    rw [List.length_cons] at outside
    rw [Rob.writeRun, ih (rob_write_wf size r v wf) (by omega), rob_read_write_of_ne wf size v (by omega)]

/-- A run of ROB writes that ends inside the ROB puts each register in its place. -/
theorem rob_read_writeRun_inside {rob : Rob} (wf : Sparse.wf rob.regs = true) {size r i : Nat} {vs : List Reg}
    (fits : r + vs.length ≤ size) (hi : i < vs.length) : (rob.writeRun size r vs).read (r + i) = vs.getD i 0 := by
  rw [Rob.read, rob_writeRun_regs vs fits]
  exact read_writeRun_inside vs r i wf hi

/-! ### Loads into the ROB -/

@[simp] theorem dynamicRegs_length (s : State) (length : BitVec 17) (address : BitVec 32) :
    (dynamicRegs s length address).length = length.toNat / 32 := by
  simp [dynamicRegs, memRegs, regsOfBytes]

/-- Register `i` of a load is that of its 32 bytes (20_memory.md R85, R86). -/
theorem dynamicRegs_getD (s : State) {length : BitVec 17} (address : BitVec 32) {i : Nat}
    (hi : i < length.toNat / 32) : (dynamicRegs s length address).getD i 0
      = regOfBytes (Memory.read s.mem) (s.cs.bases.dynamicState + address.toNat + 32 * i) := by
  simp [dynamicRegs, memRegs, regsOfBytes, hi]

/-- Every register of a load satisfies a check exactly when each register of memory does. -/
theorem dynamicRegs_all {s : State} {length : BitVec 17} {address : BitVec 32} {check : Reg → Bool} :
    (dynamicRegs s length address).all check = true ↔ ∀ i, i < length.toNat / 32 →
      check (regOfBytes (Memory.read s.mem) (s.cs.bases.dynamicState + address.toNat + 32 * i)) = true := by
  simp [dynamicRegs, memRegs, regsOfBytes]

/-- The bytes of a load into the ROB from register `first` up are the bytes of memory. -/
theorem byteOf_loaded {s : State} (wf : Sparse.wf s.rob.regs = true) {first : Nat} {length : BitVec 17}
    (address : BitVec 32) (fits : first + length.toNat / 32 ≤ s.params.robRegisters) {i b : Nat}
    (hi : i < length.toNat / 32) (hb : b < 32) :
    byteOf ((s.rob.writeRun s.params.robRegisters first (dynamicRegs s length address)).read (first + i)) b
      = Memory.read s.mem (s.cs.bases.dynamicState + address.toNat + 32 * i + b) := by
  rw [rob_read_writeRun_inside wf (by simpa using fits) (by simpa using hi), dynamicRegs_getD s address hi,
    byteOf_regOfBytes _ _ hb]

/-- The older contents are kept unless nobody can spawn (93_implementation_defined.md U7; log 8). -/
theorem staleAfterLoad_eq (s : State) : staleAfterLoad s =
    if s.td.threads = [] ∧ s.td.queue = [] ∧ s.ts.childQ = [] then [] else s.rob :: s.stale := by
  simp [staleAfterLoad, nobodySpawns, and_assoc]

/-- A load's two checks of its place are the statements' one. -/
theorem loadInBounds_iff (s : State) (length : BitVec 17) (address : BitVec 32) : LoadInBounds s length address ↔
    aligned32 length address = true ∧ belowDynamicBound s length address = true := by
  simp [aligned32, belowDynamicBound, and_assoc]

/-! ### The guards of a state command -/

theorem mediaVfeState_wellFormed {c : MediaVfeState} (length : c.dwordLength = 6) :
    (Instr.mediaVfeState c).wellFormed = true := beq_iff_eq.mpr length

theorem mediaCurbeLoad_wellFormed {c : MediaCurbeLoad} (length : c.dwordLength = 2) :
    (Instr.mediaCurbeLoad c).wellFormed = true := beq_iff_eq.mpr length

theorem mediaInterfaceDescriptorLoad_wellFormed {c : MediaInterfaceDescriptorLoad} (length : c.dwordLength = 2) :
    (Instr.mediaInterfaceDescriptorLoad c).wellFormed = true := beq_iff_eq.mpr length

theorem mediaGatewayState_wellFormed {c : MediaGatewayState} (length : c.dwordLength = 0) :
    (Instr.mediaGatewayState c).wellFormed = true := beq_iff_eq.mpr length

theorem mediaStateFlush_wellFormed {c : MediaStateFlush} (length : c.dwordLength = 0) :
    (Instr.mediaStateFlush c).wellFormed = true := beq_iff_eq.mpr length

/-- With Media selected and a legal length a command comes to its own checks. -/
theorem require_guards {s : State} {i : Instr} (media : s.cs.pipeline = .media) (legal : i.wellFormed = true)
    (k : Result) : require (mediaSelected s) .threeDSelected (require i.wellFormed .illegalLength k) = k := by
  rw [mediaSelected_of_media media, legal, require_true, require_true]

/-- A `require` line that is known to hold is passed. -/
theorem require_of {ok : Bool} (holds : ok = true) (r : Refusal) (k : Result) : require ok r k = k := if_pos holds

/-- A `require` line that is known not to hold refuses. -/
theorem require_of_not {ok : Bool} (fails : ok = false) (r : Refusal) (k : Result) : require ok r k = .refused r := by
  rw [fails, require_false]

/-! ### O11, O12: the loads -/

/-- A legal MEDIA_CURBE_LOAD loads the CURBE region. -/
theorem exec_mediaCurbeLoad {s : State} {c : MediaCurbeLoad} (media : s.cs.pipeline = .media)
    (length : c.dwordLength = 2) (loaded : s.vfe.loaded = true) (flushed : s.vfe.primSinceStateFlush = false)
    (bounds : LoadInBounds s c.totalLength c.startAddress)
    (fits : c.totalLength.toNat / 32 ≤ s.vfe.record.curbeAllocationSize.toNat) :
    exec (.mediaCurbeLoad c) s
      = .next ((loadCurbe s (dynamicRegs s c.totalLength c.startAddress)).dropStream 4) := by
  obtain ⟨aligned, below⟩ := (loadInBounds_iff ..).mp bounds
  rw [exec, execMediaCurbeLoad, require_guards media (mediaCurbeLoad_wellFormed length), require_of loaded,
    require_of (by simpa using flushed), require_of aligned,
    require_of (decide_eq_true fits), require_of below, State.takeCommand, length]
  rfl

/-- Settles O11: the CURBE region is a run of the ROB from register 32 up, as long as the load. -/
theorem curbeLoadFillsRob : Obligations.CurbeLoadFillsRob := by
  intro c s media length loaded flushed bounds fits allocation wf
  refine ⟨_, exec_mediaCurbeLoad media length loaded flushed bounds fits, ?_, fun i b hi hb => ?_, fun r outside => ?_⟩
  · simp [State.dropStream, loadCurbe, staleAfterLoad_eq]
  · exact byteOf_loaded (first := 32) wf c.startAddress (by omega) hi hb
  · exact rob_read_writeRun_outside _ _ wf (by simpa [Config.robReservedRegisters] using outside)

/-- A legal MEDIA_INTERFACE_DESCRIPTOR_LOAD loads the descriptor table. -/
theorem exec_mediaInterfaceDescriptorLoad {s : State} {c : MediaInterfaceDescriptorLoad}
    (media : s.cs.pipeline = .media) (length : c.dwordLength = 2) (flushed : s.vfe.primSinceStateFlush = false)
    (bounds : LoadInBounds s c.totalLength c.startAddress)
    (least : 32 ≤ c.totalLength.toNat) (most : c.totalLength.toNat ≤ 992)
    (mbz : (dynamicRegs s c.totalLength c.startAddress).all (descriptorMbz s.params.modeBits) = true)
    (inRange : (dynamicRegs s c.totalLength c.startAddress).all descriptorInRange = true) :
    exec (.mediaInterfaceDescriptorLoad c) s
      = .next ((loadDescriptors s (dynamicRegs s c.totalLength c.startAddress)).dropStream 4) := by
  obtain ⟨aligned, below⟩ := (loadInBounds_iff ..).mp bounds
  rw [exec, execMediaInterfaceDescriptorLoad, require_guards media (mediaInterfaceDescriptorLoad_wellFormed length),
    require_of (by simpa using flushed), require_of aligned,
    require_of (by simp [least, most]), require_of below, require_of mbz, require_of inRange,
    State.takeCommand, length]
  rfl

/-- Settles O12: the descriptor table is a run of the ROB from register 0 up, at most 31 registers long. -/
theorem descriptorLoadFillsTable : Obligations.DescriptorLoadFillsTable := by
  intro c s media length flushed bounds least most table legal wf
  have short : c.totalLength.toNat / 32 ≤ 31 := by omega
  refine ⟨_, exec_mediaInterfaceDescriptorLoad media length flushed bounds least most
    (dynamicRegs_all.mpr fun i hi => (legal i hi).1) (dynamicRegs_all.mpr fun i hi => (legal i hi).2),
    ?_, fun i b hi hb => ?_, fun r above => ?_⟩
  · simp [State.dropStream, loadDescriptors, staleAfterLoad_eq]
  · have loaded := byteOf_loaded wf (first := 0) c.startAddress (by omega) hi hb
    rwa [Nat.zero_add] at loaded
  · exact rob_read_writeRun_outside _ _ wf (.inr (by rw [dynamicRegs_length]; omega))

/-! ### O10: the record -/

theorem vfeStateFlushed_iff (s : State) (v : VfeRecord) : vfeStateFlushed s v = true ↔
    s.vfe.primSinceFlush = false
      ∨ s.vfe.primSinceStateFlush = false ∧ s.vfe.loaded = true ∧ sameButScoreboard s.vfe.record v = true := by
  simp [vfeStateFlushed, and_assoc]

/-- The model's check that nobody holds a handle is the statements' condition. -/
theorem noHandleInUse_iff (s : State) : noHandleInUse s = true ↔ NoHandleInUse s := by
  simp [noHandleInUse, and_assoc]

/-- A MEDIA_VFE_STATE in range comes to its budget, its flush and the handles in use. -/
theorem exec_mediaVfeState_of_inRange {s : State} {c : MediaVfeState} (media : s.cs.pipeline = .media)
    (length : c.dwordLength = 6) (inRange : InRange s.params c.fields) : exec (.mediaVfeState c) s =
      require (vfeRecordInBudget s.params c.fields) .robBudget
        (require (vfeStateFlushed s c.fields) .flushMissing
          (require (noHandleInUse s) .handlesInUse (.next ((writeVfeRecord s c.fields).dropStream 8)))) := by
  rw [exec, execMediaVfeState, require_guards media (mediaVfeState_wellFormed length),
    require_of ((vfeRecordInRange_iff _ _).mpr inRange), State.takeCommand, length]
  rfl

/-- Settles O10: each check of a legal MEDIA_VFE_STATE is passed. -/
theorem vfeStateWritesRecord : Obligations.VfeStateWritesRecord := by
  intro c s media length inRange inBudget flushed unused
  rw [exec_mediaVfeState_of_inRange media length inRange, require_of ((vfeRecordInBudget_iff _ _).mpr inBudget),
    require_of ((vfeStateFlushed_iff _ _).mpr flushed), require_of ((noHandleInUse_iff s).mpr unused)]
  rfl

/-! ### O13: one barrier -/

/-- A flushed MEDIA_GATEWAY_STATE comes to the ranges of its barrier and its thread count. -/
theorem exec_mediaGatewayState_of_flushed {s : State} {c : MediaGatewayState} (media : s.cs.pipeline = .media)
    (length : c.dwordLength = 0) (flushed : s.vfe.primSinceStateFlush = false) : exec (.mediaGatewayState c) s =
      require (decide (c.barrierId.toNat < 16)) .fieldOutOfRange
        (require (decide (1 ≤ c.threadCount.toNat) && decide (c.threadCount.toNat ≤ 60)) .fieldOutOfRange
          (.next ((writeBarrier s c.barrierId.toNat ⟨c.byte, c.threadCount⟩).dropStream 2))) := by
  rw [exec, execMediaGatewayState, require_guards media (mediaGatewayState_wellFormed length),
    require_of (by simpa using flushed), State.takeCommand, length]
  rfl

/-- Barrier `b` after one barrier is written. -/
theorem writeBarrier_barriers (s : State) (id : Nat) (v : Barrier) (b : Fin 16) :
    (writeBarrier s id v).gateway.barriers[b] = if b.val = id then v else s.gateway.barriers[b] := by
  simp [writeBarrier, Vector.getElem_setIfInBounds, eq_comm]

/-- Settles O13: barrier and thread count are in their ranges, and the one barrier is written. -/
theorem gatewayStateWritesOneBarrier : Obligations.GatewayStateWritesOneBarrier := by
  intro c s media length flushed barrier least most
  have done : exec (.mediaGatewayState c) s
      = .next ((writeBarrier s c.barrierId.toNat ⟨c.byte, c.threadCount⟩).dropStream 2) := by
    rw [exec_mediaGatewayState_of_flushed media length flushed, require_of (decide_eq_true (by omega)),
      require_of (by simp [least, most])]
  exact ⟨_, done, rfl, writeBarrier_barriers s _ _⟩

/-! ### O14: what is refused -/

/-- A MEDIA_OBJECT_PRT that is ready passes the checks it shares with its dispatch again (43_primitive_commands.md
R310). -/
theorem requirePrt_of_ready {s : State} {c : MediaObjectPrt} (ready : PrtReady s c) (k : Result) :
    requirePrt s c k = k := by
  obtain ⟨media, inlineLength, length, ⟨loaded, inTable, inLoad⟩, fits⟩ := ready
  have legal : (Instr.mediaObjectPrt c).wellFormed = true := by
    simpa [Instr.wellFormed, prtInlineDWords, inlineLength] using eq_lengthField (by omega)
  have short : payloadFits s (ceil8 c.inlineData.length) = true := by simpa [payloadFits, inlineLength, ceil8] using fits
  rw [requirePrt, require_guards media legal, requireDescriptor, require_of loaded, require_of (decide_eq_true inTable),
    require_of (decide_eq_true inLoad), require_of short]

/-- Settles O14: in each case the checks before the violated one are passed. -/
theorem violatedRequirementsRefused : Obligations.ViolatedRequirementsRefused := by
  intro s media
  refine ⟨fun c length inRange => ⟨fun overBudget => ?_, fun inBudget prim missing => ?_⟩,
    fun prim => ⟨fun c length loaded => ?_, fun c length => ?_, fun c length => ?_⟩,
    fun c length flushed outside => ?_, fun c ready prim => ?_⟩
  · have fails : vfeRecordInBudget s.params c.fields = false := by
      rwa [← Bool.not_eq_true, vfeRecordInBudget_iff]
    rw [exec_mediaVfeState_of_inRange media length inRange, require_of_not fails]
  · have fails : vfeStateFlushed s c.fields = false := by
      rw [← Bool.not_eq_true, vfeStateFlushed_iff]
      rintro (unflushed | ⟨flushed, -, same⟩)
      · simp [prim] at unflushed
      · exact missing.elim (by simp [same]) (by simp [flushed])
    rw [exec_mediaVfeState_of_inRange media length inRange, require_of ((vfeRecordInBudget_iff _ _).mpr inBudget),
      require_of_not fails]
  · rw [exec, execMediaCurbeLoad, require_guards media (mediaCurbeLoad_wellFormed length), require_of loaded,
      require_of_not (by simpa using prim)]
  · rw [exec, execMediaInterfaceDescriptorLoad, require_guards media (mediaInterfaceDescriptorLoad_wellFormed length),
      require_of_not (by simpa using prim)]
  · rw [exec, execMediaGatewayState, require_guards media (mediaGatewayState_wellFormed length),
      require_of_not (by simpa using prim)]
  · rw [exec_mediaGatewayState_of_flushed media length flushed]
    by_cases barrier : c.barrierId.toNat < 16
    · rw [require_of (decide_eq_true barrier), require_of_not (by simp; omega)]
    · exact require_of_not (decide_eq_false barrier) ..
  · rw [exec, execMediaObjectPrt, requirePrt_of_ready ready, require_of_not (by simpa using prim)]

/-! ### O15, O16: MEDIA_STATE_FLUSH -/

theorem rootsAcknowledged_iff (td : Dispatcher) : rootsAcknowledged td = true ↔ ∀ q ∈ td.queue, q.kind = .child := by
  rw [rootsAcknowledged, List.all_eq_true]
  refine forall₂_congr fun q _ => ?_
  cases q.kind <;> simp

/-- The model's check that a flush may end is the statements' condition. -/
theorem stateFlushDone_iff (s : State) (waterMark : BitVec 8) (mask : BitVec 16) :
    stateFlushDone s waterMark mask = true ↔ StateFlushMayEnd s waterMark mask := by
  simp [stateFlushDone, frontEndEmpty, rootsAcknowledged_iff, barriersClear, and_assoc, imp_iff_not_or]

/-- A flush that may end ends, and is noted. -/
theorem stateFlushStep_of_mayEnd {s : State} {waterMark : BitVec 8} {mask : BitVec 16}
    (mayEnd : StateFlushMayEnd s waterMark mask) : stateFlushStep waterMark mask s
      = { s with vfe := { s.vfe with work := none, primSinceStateFlush := false } } :=
  if_pos ((stateFlushDone_iff ..).mpr mayEnd)

/-- A flush that may not end stays with VFE. -/
theorem stateFlushStep_of_held {s : State} {waterMark : BitVec 8} {mask : BitVec 16}
    (held : ¬ StateFlushMayEnd s waterMark mask) :
    stateFlushStep waterMark mask s = s.setWork (some (.flush waterMark mask)) :=
  if_neg (mt (stateFlushDone_iff ..).mp held)

/-- A legal MEDIA_STATE_FLUSH leaves the stream and is at once looked at. -/
theorem exec_mediaStateFlush {s : State} {c : MediaStateFlush} (media : s.cs.pipeline = .media)
    (length : c.dwordLength = 0) : exec (.mediaStateFlush c) s
      = .next (stateFlushStep c.threadCountWaterMark c.barrierMask (s.dropStream 2)) := by
  rw [exec, execMediaStateFlush, require_guards media (mediaStateFlush_wellFormed length), State.takeCommand, length]
  rfl

/-- VFE goes on with a flush it holds. -/
theorem vfeTurn_of_flush {s : State} {waterMark : BitVec 8} {mask : BitVec 16}
    (work : s.vfe.work = some (.flush waterMark mask)) : vfeTurn s = .next (stateFlushStep waterMark mask s) := by
  simp [vfeTurn, work, continueWork]

/-- Settles O15: nothing a flush waits for is in the stream it leaves. -/
theorem stateFlushCompletes : Obligations.StateFlushCompletes := by
  intro c s media length noRoots noneAside acknowledged slots barriers
  rw [exec_mediaStateFlush media length]
  exact congrArg _ (stateFlushStep_of_mayEnd (s := s.dropStream 2) ⟨noRoots, noneAside, acknowledged, slots, barriers⟩)

/-- Settles O16: a held flush is VFE's work, and each turn looks at its conditions again. -/
theorem stateFlushWaits : Obligations.StateFlushWaits := by
  refine ⟨fun c s media length held => ?_, fun s waterMark mask work => ?_⟩
  · rw [exec_mediaStateFlush media length]
    exact congrArg _ (stateFlushStep_of_held (s := s.dropStream 2) held)
  · rw [vfeTurn_of_flush work]
    refine ⟨fun held => ?_, fun mayEnd => ?_⟩
    · rw [stateFlushStep_of_held held, setWork_self work]
    · rw [stateFlushStep_of_mayEnd mayEnd]

end Sys2Proof.Proofs
end

section
/-! SUPPORT. What a thread takes from its interface descriptor: the exception enables and the kernel, through the request
to TD that TS makes with it; and the statements of 42_state_commands.md they settle. -/

namespace Sys2Proof.Proofs

open Sys2Proof Sys2Proof.Machine Sys2Proof.Laws

/-! ### O44: the exception enables -/

/-- The three enables in CR0.1 (42_state_commands.md R266). -/
theorem cr01Enables_bits (e : ExceptionEnables) : (cr01Enables e).getLsbD 12 = e.illegalOpcode
    ∧ (cr01Enables e).getLsbD 11 = e.maskStack ∧ (cr01Enables e).getLsbD 13 = e.software := by
  simp only [cr01Enables, bit, BitVec.getLsbD_append]
  simp

/-- Settles O44: a request to TD has the modes of its descriptor, and its thread those of the request. -/
theorem exceptionEnablesReachThread : Obligations.ExceptionEnablesReachThread :=
  fun s _ _ => ⟨fun r _ => cr01Enables_bits (modesOf s.params.modeBits (rootDescriptor s r)).exceptions,
    fun m => cr01Enables_bits (modesOf s.params.modeBits (childDescriptorReg s m)).exceptions⟩

/-! ### O45: the kernel -/

/-- A thread starts at the kernel its request to TD names (41_thread_spawner.md R204, 10_state.md R67). -/
theorem threadFor_ip (s : State) (q : TdReq) (h : HalfSlice) :
    (threadFor s q h).ip = s.cs.bases.instruction + q.kernel.toNat * 64 := rfl

/-- Settles O45: a request to TD names the kernel of its descriptor. -/
theorem threadStartsAtKernel : Obligations.ThreadStartsAtKernel := by
  intro s u h
  refine ⟨fun r x => threadFor_ip .., fun m desc fields => ?_⟩
  rw [threadFor_ip, childTdReq, fields]
  rfl

end Sys2Proof.Proofs
end

section
/-! SUPPORT. A primitive command that gets its handle: the state in which its first request is queued, and the payload
that lies in its URB entry; and the statements of 43_primitive_commands.md they settle. -/

namespace Sys2Proof.Proofs

open Sys2Proof Sys2Proof.Machine Sys2Proof.Laws Sys2Proof.Certificates

/-! ### O19: the payload of MEDIA_OBJECT -/

/-- Register `j` of inline data (43_primitive_commands.md R301). -/
theorem inlineRegs_getD {l : List DWord} {j : Nat} (hj : j < ceil8 l.length) :
    (inlineRegs l).getD j 0 = Reg.ofDWords fun d => l.getD (8 * j + d) 0 := by
  simp [inlineRegs, hj]

/-- Register `i` of a run read from memory (20_memory.md R83). -/
theorem memRegs_getD (m : List Host.Cell) (base offset : Nat) {i n : Nat} (hi : i < n) :
    (memRegs m base offset n).getD i 0 = regOfBytes (Memory.read m) (base + offset + 32 * i) := by
  simp [memRegs, regsOfBytes, hi]

/-- The payload of MEDIA_OBJECT begins with its inline registers (43_primitive_commands.md R308). -/
theorem objectPayload_getD_inline (s : State) {c : MediaObject} {j : Nat} (hj : j < ceil8 c.inlineData.length) :
    (objectPayload s c).getD j 0 = Reg.ofDWords fun d => c.inlineData.getD (8 * j + d) 0 := by
  rw [objectPayload, List.getD_append _ _ _ _ (by simpa using hj), inlineRegs_getD hj]

/-- After the inline registers come those of the indirect data (43_primitive_commands.md R308). -/
theorem objectPayload_getD_indirect (s : State) {c : MediaObject} {i : Nat}
    (hi : i < c.indirectDataLength.toNat / 32) : (objectPayload s c).getD (ceil8 c.inlineData.length + i) 0
      = regOfBytes (Memory.read s.mem)
          (s.cs.bases.indirectObject + c.indirectDataStartAddress.toNat + 32 * i) := by
  rw [objectPayload, List.getD_append_right _ _ _ _ (by simp), inlineRegs_length, Nat.add_sub_cancel_left,
    memRegs_getD _ _ _ hi]

/-- With a free head handle a command's payload is written into its entry, whether RootQ has room or not. -/
theorem startGeneration_rob_of_headFree {s : State} (control : RootControl) (payload : List Reg) (p : WalkPos)
    (rest : List WalkPos) (free : s.vfe.pool.headFree = true) :
    (startGeneration control payload (p :: rest) s).rob
      = s.rob.writeRun s.params.robRegisters (urbEntryBase s.vfe.record s.vfe.pool.headHandle) payload := by
  rw [startGeneration_eq, generateStep_of_headFree (s := notePrimitive s) rfl rfl free, offerRoot_rob]
  rfl

/-- A legal MEDIA_OBJECT with a free head handle is answered, its payload in the entry of that handle. -/
theorem exec_mediaObject_rob {s : State} {c : MediaObject} (ready : ObjectReady s c)
    (free : s.vfe.pool.headFree = true) : ∃ t, exec (.mediaObject c) s = .next t
      ∧ t.rob = s.rob.writeRun s.params.robRegisters
          (urbEntryBase s.vfe.record (BitVec.ofNat 16 s.vfe.pool.head)) (objectPayload s c) :=
  ⟨_, exec_mediaObject ready, startGeneration_rob_of_headFree _ _ _ _ free⟩

/-- Settles O19: the entry is a run of the ROB that holds the payload, inline registers and then indirect ones. -/
theorem mediaObjectPayload : Obligations.MediaObjectPayload := by
  intro c s ready free wf fits
  obtain ⟨t, done, written⟩ := exec_mediaObject_rob ready free
  rw [← objectPayload_length s c] at fits
  refine ⟨t, done, ?_⟩
  rw [written, ← objectPayload_length s c]
  refine ⟨fun j d hj hd => ?_, fun i b hi hb => ?_, fun r outside => rob_read_writeRun_outside _ _ wf outside⟩
  · have inside : j < (objectPayload s c).length := by rw [objectPayload_length]; omega
    rw [rob_read_writeRun_inside wf fits inside, objectPayload_getD_inline s hj, dword_ofDWords _ hd]
  · have inside : ceil8 c.inlineData.length + i < (objectPayload s c).length := by rw [objectPayload_length]; omega
    rw [Nat.add_assoc, rob_read_writeRun_inside wf fits inside, objectPayload_getD_indirect s hi,
      byteOf_regOfBytes _ _ hb]

/-! ### O18, O20, O22: the first request -/

/-- With a free head handle and room in RootQ a command's first request is queued, and VFE keeps the other positions. -/
theorem startGeneration_of_room {s : State} (control : RootControl) {payload : List Reg} {n : Nat} (p : WalkPos)
    (rest : List WalkPos) (length : payload.length = n) (free : s.vfe.pool.headFree = true)
    (room : s.ts.rootQ.length < Config.rootQueueDepth) :
    startGeneration control payload (p :: rest) s
      = { s with
          vfe := { s.vfe with
                   pool := s.vfe.pool.take
                   work := if rest = [] then none else some (.generate ⟨control, payload, rest, none⟩)
                   primSinceFlush := true, primSinceStateFlush := true }
          rob := s.rob.writeRun s.params.robRegisters (urbEntryBase s.vfe.record s.vfe.pool.headHandle) payload
          ts := { s.ts with
                  rootQ := s.ts.rootQ ++
                    [⟨control, p, s.vfe.pool.headHandle, n, s.vfe.record.scratchSpaceBasePointer,
                      s.vfe.record.perThreadScratchSpace⟩] } } := by
  subst length
  rw [startGeneration_eq, generateStep_of_headFree (s := notePrimitive s) rfl rfl free]
  exact offerRoot_of_room _ _ room

/-- Without a position a command takes no handle and queues nothing. -/
theorem startGeneration_nil (control : RootControl) (payload : List Reg) (s : State) :
    startGeneration control payload [] s
      = { s with vfe := { s.vfe with work := none, primSinceFlush := true, primSinceStateFlush := true } } := rfl

/-- Settles O18: the one position of a MEDIA_OBJECT is its whole generation. -/
theorem mediaObjectGeneratesRoot : Obligations.MediaObjectGeneratesRoot := by
  intro c s ready free room
  exact (exec_mediaObject ready).trans
    (congrArg _ (startGeneration_of_room _ _ _ (objectPayload_length s c) free room))

/-- The payload of a legal MEDIA_OBJECT_PRT, twelve inline DWords, is two registers (43_primitive_commands.md R310). -/
theorem prtPayload_length {s : State} {c : MediaObjectPrt} (ready : PrtReady s c) :
    (inlineRegs c.inlineData).length = 2 := by
  obtain ⟨-, inlineLength, -⟩ := ready
  simp [inlineLength, ceil8]

/-- Settles O20: the one position of a MEDIA_OBJECT_PRT is its whole generation, as for MEDIA_OBJECT. -/
theorem prtGeneratesRoot : Obligations.PrtGeneratesRoot := by
  intro c s ready flushed free room
  exact (exec_mediaObjectPrt ready flushed).trans
    (congrArg _ (startGeneration_of_room _ _ _ (prtPayload_length ready) free room))

/-- Settles O22: the walk without positions, and the walk with a first one. -/
theorem walkerGeneratesFirstRoot : Obligations.WalkerGeneratesFirstRoot := by
  refine ⟨fun c s ready walk => ?_, fun c s p rest ready walk fits free room => ?_⟩
  · rw [exec_mediaObjectWalker ready (.inl walk), walk]
    exact congrArg _ (startGeneration_nil ..)
  · have first := startGeneration_of_room (s := s.dropStream (c.inlineData.length + 17)) (walkerControl c)
      (walkPos p) (rest.map walkPos) (inlineRegs_length c.inlineData) free room
    simp only [List.map_eq_nil_iff] at first
    rw [exec_mediaObjectWalker ready (.inr fits), walk]
    exact congrArg _ first

end Sys2Proof.Proofs
end

section
/-! SUPPORT. The macroblock data of 44_macroblock_data_formats.md: the rows of Table 1-17, the fields of a coefficient DWord,
and the statements they settle. -/

namespace Sys2Proof.Proofs

open Sys2Proof Sys2Proof.Machine Sys2Proof.Machine.Macroblock Sys2Proof.Certificates
open BitVec (extractLsb'_append_eq_of_add_le extractLsb'_append_eq_of_le)

/-! ### O59: the motion vector state, row by row of Table 1-17 (R353) -/

/-- MvSize is the size that R352 gives the state of Table 1-17. -/
theorem mvSize_of_mvStateOf {intra : Bool} {t sh pm : Nat} {m : MvState} (state : mvStateOf intra t sh pm = some m) :
    mvSize intra t sh pm = some m.size := congrArg (Option.map MvState.size) state

theorem mvStateOf_intra (t sh pm : Nat) : mvStateOf true t sh pm = some .b0 := rfl

/-- Types 1 to 3: one partition. -/
theorem mvStateOf_16x16 {t : Nat} (sh pm : Nat) (least : 1 ≤ t) (most : t ≤ 3) :
    mvStateOf false t sh pm = some .b1 := by
  simp [mvStateOf, least, most]

/-- Types 4 to 21: two partitions. They are none of the types 1 to 3. -/
theorem mvStateOf_twoPartitions {t : Nat} (sh pm : Nat) (least : 4 ≤ t) (most : t ≤ 21) :
    mvStateOf false t sh pm = some .b2 := by
  have above : ¬ t ≤ 3 := by omega
  simp [mvStateOf, above, least, most]

/-- Type 22 without sub-partition, whatever the prediction modes are. -/
theorem mvStateOf_8x8_noSubPartition (pm : Nat) : mvStateOf false 22 0 pm = some .b2 := rfl

/-- Type 22 with sub-partition: no mode is BiPred. -/
theorem mvStateOf_8x8_noBiPred {sh pm : Nat} (shape : 0 < sh) (mode : pm < 2) :
    mvStateOf false 22 sh pm = some .p3 := by
  simp [mvStateOf, shape.ne', mode]

/-- Type 22 with sub-partition: some mode is BiPred. -/
theorem mvStateOf_8x8_biPred {sh pm : Nat} (shape : 0 < sh) (mode : 2 ≤ pm) :
    mvStateOf false 22 sh pm = some .b3 := by
  simp [mvStateOf, shape.ne', mode.not_gt]

/-- Settles O59: each row has its state, and the state its size. -/
theorem mvSizeTable : Obligations.MvSizeTable :=
  ⟨fun t sh pm => mvSize_of_mvStateOf (mvStateOf_intra t sh pm),
    fun _ sh pm least most => mvSize_of_mvStateOf (mvStateOf_16x16 sh pm least most),
    fun _ sh pm least most => mvSize_of_mvStateOf (mvStateOf_twoPartitions sh pm least most),
    fun pm => mvSize_of_mvStateOf (mvStateOf_8x8_noSubPartition pm),
    fun _ _ shape mode => mvSize_of_mvStateOf (mvStateOf_8x8_noBiPred shape mode),
    fun _ _ shape mode => mvSize_of_mvStateOf (mvStateOf_8x8_biPred shape mode.ge)⟩

/-! ### O60: the fields of a coefficient DWord (R360) -/

@[simp] theorem bits_coefficientDWord_value (c : Coefficient) : bits (coefficientDWord c) 16 16 = c.value := by
  simp (disch := omega) [-Nat.reduceAdd, coefficientDWord, bits, extractLsb'_append_eq_of_le]

/-- Bits 15:7 are zero. -/
@[simp] theorem mbz_coefficientDWord (c : Coefficient) : mbz (coefficientDWord c) 7 9 = true := by
  simp (disch := omega) [-Nat.reduceAdd, coefficientDWord, mbz, bits, extractLsb'_append_eq_of_add_le,
    extractLsb'_append_eq_of_le]

@[simp] theorem bits_coefficientDWord_index (c : Coefficient) : bits (coefficientDWord c) 1 6 = c.index := by
  simp (disch := omega) [-Nat.reduceAdd, coefficientDWord, bits, extractLsb'_append_eq_of_add_le,
    extractLsb'_append_eq_of_le]

@[simp] theorem flag_coefficientDWord_eob (c : Coefficient) : flag (coefficientDWord c) 0 = c.eob := by
  simp (disch := omega) [-Nat.reduceAdd, coefficientDWord, flag_eq_bits, bits, extractLsb'_append_eq_of_add_le]

/-- Settles O60: the DWord is accepted, as its MBZ bits are zero, and each field is the one that was written. -/
theorem coefficientRoundTrip : Obligations.CoefficientRoundTrip := by
  intro c
  simp [coefficientOf]

end Sys2Proof.Proofs
end

section
/-! SUPPORT. The R0 header of a root thread: its DWords, the fields of each, and the statements of 45_messages.md R393
to R396 they settle. -/

namespace Sys2Proof.Proofs

open Sys2Proof Sys2Proof.Machine Sys2Proof.Laws Sys2Proof.Certificates
open BitVec (extractLsb'_append_eq_of_add_le extractLsb'_append_eq_of_le)

/-! ### The DWords of the header -/

section Header

variable (q : Config.Params) (r : RootReq) (desc : Reg) (f : BitVec 8) (k : Nat)

@[simp] theorem rootHeader_dword_zero : (rootHeader q r desc f k).dword 0 = r00 r := dword_ofList _ (by decide)
@[simp] theorem rootHeader_dword_one : (rootHeader q r desc f k).dword 1 = r01 r := dword_ofList _ (by decide)
@[simp] theorem rootHeader_dword_two : (rootHeader q r desc f k).dword 2 = r02 q r desc := dword_ofList _ (by decide)
@[simp] theorem rootHeader_dword_three : (rootHeader q r desc f k).dword 3 = r03 r desc := dword_ofList _ (by decide)
@[simp] theorem rootHeader_dword_four : (rootHeader q r desc f k).dword 4 = r04 desc := dword_ofList _ (by decide)
@[simp] theorem rootHeader_dword_five : (rootHeader q r desc f k).dword 5 = r05 r f k := dword_ofList _ (by decide)
@[simp] theorem rootHeader_dword_six : (rootHeader q r desc f k).dword 6 = 0 := dword_ofList _ (by decide)
@[simp] theorem rootHeader_dword_seven : (rootHeader q r desc f k).dword 7 = 0 := dword_ofList _ (by decide)

/-! ### The fields of R0.2 to R0.5 -/

/-- R0.2 from bit 4 up is the same for every root thread; below it the kinds of roots differ (R393, R394, R396). -/
theorem r02_highFields : bits (r02 q r desc) 4 5 = r.control.interfaceDescriptorOffset
    ∧ bits (r02 q r desc) 9 7 = 0 ∧ bits (r02 q r desc) 23 1 = 0 ∧ bits (r02 q r desc) 16 7 = barrierOffset q desc
    ∧ bits (r02 q r desc) 24 4 = bits (desc.dword 5) 0 4 ∧ bits (r02 q r desc) 28 4 = 0 := by
  cases prt : r.control.isPrt <;>
    simp (disch := omega) [-Nat.reduceAdd, r02, prt, r02Generic, r02Prt, descriptorOf, bits,
      extractLsb'_append_eq_of_add_le, extractLsb'_append_eq_of_le]

/-- R0.2[3:0] of a generic root is its color (R394). -/
theorem r02_color (generic : r.control.isPrt = false) : bits (r02 q r desc) 0 4 = r.position.color := by
  simp (disch := omega) [-Nat.reduceAdd, r02, generic, r02Generic, bits, extractLsb'_append_eq_of_add_le]

/-- R0.2[3:0] of a persistent root is Thread Restart Enable, with zeros above it (R396). -/
theorem r02_restart (prt : r.control.isPrt = true) :
    (r02 q r desc)[0] = r.control.restart ∧ bits (r02 q r desc) 1 3 = 0 := by
  rw [← BitVec.getLsbD_eq_getElem, ← flag, flag_eq_bits]
  simp (disch := omega) [-Nat.reduceAdd, r02, prt, r02Prt, bits, extractLsb'_append_eq_of_add_le,
    extractLsb'_append_eq_of_le]

/-- R0.3: the sampler states, and below them the scratch space of a thread, with bit 4 reserved (R395). -/
theorem r03_fields : bits (r03 r desc) 5 27 = bits (desc.dword 2) 5 27
    ∧ bits (r03 r desc) 0 5 = 0#1 ++ r.scratchSize := by
  have halves : r03 r desc = bits (desc.dword 2) 5 27 ++ (0#1 ++ r.scratchSize) := BitVec.append_assoc
  simp (disch := omega) [-Nat.reduceAdd, halves, bits, extractLsb'_append_eq_of_add_le, extractLsb'_append_eq_of_le]

/-- R0.4: the binding table, and below it zeros (R395). -/
theorem r04_fields : bits (r04 desc) 5 27 = bits (desc.dword 3) 5 27 ∧ bits (r04 desc) 0 5 = 0 := by
  simp (disch := omega) [-Nat.reduceAdd, r04, descriptorOf, bits, extractLsb'_append_eq_of_add_le,
    extractLsb'_append_eq_of_le]

/-- R0.5: the FFTID, two zeros, and the scratch slot's region, which begins `k` regions above the base
(R395, 41_thread_spawner.md R209). -/
theorem r05_fields : bits (r05 r f k) 0 8 = f ∧ bits (r05 r f k) 8 2 = 0
    ∧ (bits (r05 r f k) 10 22).toNat = (r.scratchBase.toNat + k * (r.scratchSize.toNat + 1)) % 2 ^ 22 := by
  simp (disch := omega) [-Nat.reduceAdd, r05, scratchPointer, bits, extractLsb'_append_eq_of_add_le,
    extractLsb'_append_eq_of_le]

end Header

/-! ### O39, O40: the two kinds of header -/

/-- Settles O39: R0.0 and R0.1 are those of a generic root, and each field above is read back. -/
theorem genericHeaderFields : Obligations.GenericHeaderFields := by
  intro q r desc f k generic
  have dword0 : r00 r = r.control.scoreboardMask ++ 0#8 ++ r.handle := if_neg (by simp [generic])
  have dword1 : r01 r = 0#7 ++ r.position.y ++ 0#7 ++ r.position.x := if_neg (by simp [generic])
  simp [dword0, dword1, r02_color, generic, r02_highFields, r03_fields, r04_fields, r05_fields]

/-- Settles O40: R0.0 and R0.1 are those of a persistent root, and each field above is read back. -/
theorem prtHeaderFields : Obligations.PrtHeaderFields := by
  intro q r desc f k prt
  have dword0 : r00 r = 0#16 ++ r.handle := if_pos prt
  have dword1 : r01 r = 0 := if_pos prt
  simp [dword0, dword1, r02_restart, prt, r02_highFields, r03_fields, r04_fields, r05_fields]

end Sys2Proof.Proofs
end

section
/-! SUPPORT. The thread spawn messages: what each comes to when its checks hold, which check refuses it, what the end of
a root releases; and the statements of 45_messages.md R401 to R415 they settle. -/

namespace Sys2Proof.Proofs

open Sys2Proof Sys2Proof.Machine Sys2Proof.Laws Sys2Proof.Certificates

/-! ### The forms of a message -/

/-- Both requesters' spawn-child messages mean the same (R404, R405). -/
theorem exec_spawnChild (m : MsgFields) (s : State) :
    exec (.tsSpawnChildRoot m) s = spawnChild m s ∧ exec (.tsSpawnChildChild m) s = spawnChild m s := ⟨rfl, rfl⟩

/-- Both requesters' spawn-root messages mean the same (R406, R407). -/
theorem exec_spawnRoot (m : MsgFields) (s : State) :
    exec (.tsSpawnRootRoot m) s = spawnRoot m s ∧ exec (.tsSpawnRootChild m) s = spawnRoot m s := ⟨rfl, rfl⟩

@[simp] theorem exec_tsDerefUrbRoot (m : MsgFields) (s : State) : exec (.tsDerefUrbRoot m) s = derefUrbRoot m s := rfl

@[simp] theorem exec_tsDerefNourbRoot (m : MsgFields) (s : State) :
    exec (.tsDerefNourbRoot m) s = derefNourbRoot m s := rfl

/-- A child's dereference messages free their place in ChildQ (R414, R415). -/
theorem exec_derefChild (m : MsgFields) (s : State) :
    exec (.tsDerefUrbChild m) s = .next s.popChildQ ∧ exec (.tsDerefNourbChild m) s = .next s.popChildQ :=
  ⟨rfl, rfl⟩

/-- Settles O30: each pair of forms has one meaning, and the encoder writes the descriptors. -/
theorem requesterChangesNoSpawn : Obligations.RequesterChangesNoSpawn := by
  intro f s
  obtain ⟨childByRoot, childByChild⟩ := exec_spawnChild f s
  obtain ⟨rootByRoot, rootByChild⟩ := exec_spawnRoot f s
  exact ⟨childByChild.trans childByRoot.symm, rootByChild.trans rootByRoot.symm, rfl, rfl⟩

/-- Settles O37: the meaning takes the message off ChildQ, and the encoder writes the descriptors. -/
theorem childDereferenceDoesNothing : Obligations.ChildDereferenceDoesNothing := by
  intro m s
  obtain ⟨urb, nourb⟩ := exec_derefChild m s
  exact ⟨urb, nourb, rfl, rfl⟩

/-! ### O31: a spawn message with EOT -/

theorem spawnChild_of_eot {m : MsgFields} (eot : m.eot = true) (s : State) :
    spawnChild m s = .refused .spawnWithEot := require_of_not (by simp [eot]) _ _

theorem spawnRoot_of_eot {m : MsgFields} (eot : m.eot = true) (s : State) :
    spawnRoot m s = .refused .spawnWithEot := require_of_not (by simp [eot]) _ _

/-- Settles O31: EOT is the first check of both kinds of spawn message. -/
theorem spawnWithEotRefused : Obligations.SpawnWithEotRefused := by
  intro f s eot
  obtain ⟨childByRoot, childByChild⟩ := exec_spawnChild f s
  obtain ⟨rootByRoot, rootByChild⟩ := exec_spawnRoot f s
  have child := spawnChild_of_eot eot s
  have root := spawnRoot_of_eot eot s
  exact ⟨childByRoot.trans child, childByChild.trans child, rootByRoot.trans root, rootByChild.trans root⟩

/-! ### O28: spawn child -/

/-- When a spawn-child message starts its child (R404). -/
theorem spawnChild_next_iff (m : MsgFields) (s t : State) : spawnChild m s = .next t ↔
    m.eot = false ∧ m.interfaceDescriptorOffset.toNat ≤ 30 ∧ m.interfaceDescriptorOffset.toNat < s.rob.idtCount
      ∧ m.offset.toNat + (1 + m.length.toNat) ≤ s.vfe.record.urbEntryAllocationSize.toNat
      ∧ ((childDescriptor s m).constantUrbReadLength = 0
          ∨ (childDescriptor s m).constantUrbReadOffset.toNat + (childDescriptor s m).constantUrbReadLength.toNat
              ≤ s.params.robRegisters - 33)
      ∧ (childImage s m).length ≤ s.params.grfRegisters ∧ startChild s m = t := by
  simp only [spawnChild, dispatchChild, require_next, requireUrbRegs_next, constantsInRange_iff, decide_eq_true_eq,
    Bool.not_eq_true', Host.Outcome.next.injEq]

/-- Settles O28: every check of the message holds, and a child is started. -/
theorem spawnChildRequestsChild : Obligations.SpawnChildRequestsChild := by
  intro m s noEot offset loaded entry constants image
  obtain ⟨byRoot, byChild⟩ := exec_spawnChild m s
  have starts : spawnChild m s = .next (startChild s m) :=
    (spawnChild_next_iff m s _).mpr
      ⟨noEot, offset, loaded, (Nat.add_assoc _ _ _).ge.trans entry, constants, image, rfl⟩
  exact ⟨startChild s m, byRoot.trans starts, byChild.trans starts, rfl⟩

/-! ### O32, O33: spawn root -/

/-- The head of RootQ goes if it is a synchronized root that may start. -/
theorem waitingSynchronizedRoot_of_mayStart {s : State} {r : RootReq} {queue : List RootReq}
    (head : s.ts.rootQ = r :: queue) (sync : r.control.threadSync = true) (may : MayStart s r) :
    waitingSynchronizedRoot s = some r := by
  have eligible := (rootEligible_iff_mayStart s r).mpr may
  simp [waitingSynchronizedRoot, head, sync, eligible]

/-- No synchronized root goes if none that may start is the head of RootQ. -/
theorem waitingSynchronizedRoot_eq_none {s : State}
    (noneMay : ∀ r queue, s.ts.rootQ = r :: queue → r.control.threadSync = true → ¬ MayStart s r) :
    waitingSynchronizedRoot s = none := by
  rw [Option.eq_none_iff_forall_ne_some]
  intro r goes
  obtain ⟨first, sync, eligible⟩ := waitingSynchronizedRoot_some goes
  obtain ⟨queue, head⟩ := List.head?_eq_some_iff.mp first
  exact noneMay r queue head sync ((rootEligible_iff_mayStart s r).mp eligible)

/-- A spawn-root message that no root may answer leaves everything as it is (R406). -/
theorem spawnRoot_of_none {m : MsgFields} {s : State} (noEot : m.eot = false)
    (waits : waitingSynchronizedRoot s = none) : spawnRoot m s = .next s := by
  simp [spawnRoot, noEot, waits, require_true]

/-- A spawn-root message releases the synchronized root that waits for it (R406, 41_thread_spawner.md R220). -/
theorem spawnRoot_of_some {m : MsgFields} {s : State} {r : RootReq} (noEot : m.eot = false)
    (goes : waitingSynchronizedRoot s = some r)
    (entry : m.offset.toNat + m.length.toNat ≤ s.vfe.record.urbEntryAllocationSize.toNat) :
    spawnRoot m s = releaseRoot s.popBoth r (some (urbRefOf m)) := by
  simp [spawnRoot, noEot, goes, requireUrbRegs, entry, require_true]

/-- Settles O33: without such a root the message waits. -/
theorem spawnRootWaits : Obligations.SpawnRootWaits := by
  intro m s noEot noneMay
  obtain ⟨byRoot, byChild⟩ := exec_spawnRoot m s
  have waits := spawnRoot_of_none noEot (waitingSynchronizedRoot_eq_none noneMay)
  exact ⟨byRoot.trans waits, byChild.trans waits⟩

/-- Settles O32: the root that waits is released as both leave their queues, and is dispatched with the message's
registers. -/
theorem spawnRootStartsRoot : Obligations.SpawnRootStartsRoot := by
  intro m s r queue noEot head sync may free entry fits
  obtain ⟨byRoot, byChild⟩ := exec_spawnRoot m s
  have both : s.popBoth = { s with ts := { s.ts with rootQ := queue, childQ := s.ts.childQ.tail } } := by
    rw [State.popBoth, head, List.tail_cons]
  obtain ⟨t, f, k, starts, rest⟩ := dispatchRoot_starts queue s.ts.aside s.ts.childQ.tail may fits
  have answered : spawnRoot m s = .next t := by
    rw [spawnRoot_of_some noEot (waitingSynchronizedRoot_of_mayStart head sync may) entry, both]
    exact (releaseRoot_of_notSetAside (s := s) { s.ts with rootQ := queue, childQ := s.ts.childQ.tail } _ rfl
      free).trans starts
  exact ⟨t, f, k, byRoot.trans answered, byChild.trans answered, rest⟩

/-! ### O34 to O36: the dereference messages of a root -/

/-- A root's TS_DEREF_NOURB ends the thread if it carries EOT (R411). -/
theorem derefNourbRoot_of_found {m : MsgFields} {s : State} {o : Outstanding}
    (found : outstandingOf s.ts m.fftid = some o) :
    derefNourbRoot m s = .next (s.popChildQ.endRoot m.eot o) := by
  simp only [derefNourbRoot, found]

/-- A root's TS_DEREF_URB looks at the handle first, and then at the mark of a dereference (R410). -/
theorem derefUrbRoot_of_found {m : MsgFields} {s : State} {o : Outstanding}
    (found : outstandingOf s.ts m.fftid = some o) :
    derefUrbRoot m s =
      require (o.childrenPresent && o.handle == m.handle) .handleNotHeld
        (require (!o.dereferenced) .secondDereference
          (.next (({ s.popChildQ with ts := s.popChildQ.ts.markDereferenced m.fftid }.dereference m.handle).endRoot
            m.eot o))) := by
  simp only [derefUrbRoot, found]

/-- A root's dereference under an FFTID that is not outstanding is refused (R410, R411). -/
theorem deref_of_unknown {m : MsgFields} {s : State} (unknown : outstandingOf s.ts m.fftid = none) :
    derefUrbRoot m s = .refused .unknownFftid ∧ derefNourbRoot m s = .refused .unknownFftid := by
  simp only [derefUrbRoot, derefNourbRoot, unknown, and_self]

/-- Settles O35: the FFTID, the handle and the mark are looked at in this order. -/
theorem wrongDereferenceRefused : Obligations.WrongDereferenceRefused := by
  intro m s
  refine ⟨deref_of_unknown, fun o found => ?_⟩
  rw [exec_tsDerefUrbRoot, derefUrbRoot_of_found found]
  constructor
  · rintro (noChildren | other)
    · exact require_of_not (by simp [noChildren]) _ _
    · exact require_of_not (by simp [other]) _ _
  · intro children handle second
    rw [require_of (by simp [children, handle])]
    exact require_of_not (by simp [second]) _ _

/-- The mark of a dereference goes with the record that bears it. -/
theorem filter_markDereferenced (ts : Spawner) (f : BitVec 8) :
    (ts.markDereferenced f).outstanding.filter (·.fftid != f) = ts.outstanding.filter (·.fftid != f) := by
  simp only [Spawner.markDereferenced, beq_iff_eq]
  induction ts.outstanding with
  | nil => rfl
  | cons o rest ih => by_cases same : o.fftid = f <;> simp [same, ih]

/-- Releasing a root forgets whether it was dereferenced. -/
theorem retireRoot_markDereferenced (ts : Spawner) (o : Outstanding) :
    (ts.markDereferenced o.fftid).retireRoot o = ts.retireRoot o := by
  simp only [Spawner.retireRoot, filter_markDereferenced]
  rfl

/-- Settles O36: the thread ends or does not. -/
theorem derefNourbRootReleases : Obligations.DerefNourbRootReleases := by
  intro m s o found
  obtain ⟨-, named⟩ := outstandingOf_some found
  rw [exec_tsDerefNourbRoot, derefNourbRoot_of_found found, ← named]
  cases m.eot with
  | false => rfl
  | true => rfl

/-- Settles O34: the handle is dereferenced, and the thread ends or bears the mark of it. -/
theorem derefUrbRootReleases : Obligations.DerefUrbRootReleases := by
  intro m s o found children handle first
  obtain ⟨-, named⟩ := outstandingOf_some found
  rw [exec_tsDerefUrbRoot, derefUrbRoot_of_found found, require_of (by simp [children, handle]),
    require_of (by simp [first]), ← named]
  cases m.eot with
  | false => simp [State.endRoot, Spawner.markDereferenced, State.dereference, HandlePool.dereference, State.popChildQ]
  | true =>
    simp only [State.endRoot, dereference_ts, retireRoot_markDereferenced, if_true]
    rfl

end Sys2Proof.Proofs
end

section
/-! SUPPORT. The context switch: which step sends the preempt signal, when the switch completes, and the
MEDIA_OBJECT_PRT that is executed again; and the statements of 60_exceptions.md they settle. -/

namespace Sys2Proof.Proofs

open Sys2Proof Sys2Proof.Machine Sys2Proof.Laws Sys2Proof.Certificates

/-- A step does what stands first on the agenda. -/
theorem step_of_agenda {s : State} {e : Event} {events : List Event} (agenda : s.agenda = e :: events) :
    step s = handle e { s with agenda := events } := by
  have next : nextEvent s = (e, { s with agenda := events }) := by simp [nextEvent, agenda]
  rw [step, oneStep, next]

/-! ### O21: context restore -/

/-- With VFE free and not held, the saved MEDIA_OBJECT_PRT is generated with its restart bit. -/
theorem contextRestore_of_ready {s : State} {c : MediaObjectPrt} (ready : PrtReady s c) (idle : s.vfe.work = none)
    (noFence : s.ts.fence ≠ .vfeEntry) (noSwitch : s.ts.preemptPending = false) :
    contextRestore c s = .next (generatePrt c true s) := by
  have unheld : vfeHeld s = false := by simp [vfeHeld, noFence, noSwitch]
  have goes : (s.vfe.work.isSome || vfeHeld s) = false := by simp [idle, unheld]
  rw [contextRestore, goes, if_neg Bool.false_ne_true, requirePrt_of_ready ready]

/-- Settles O21: the one position of the restored command is its whole generation, as for MEDIA_OBJECT_PRT. -/
theorem contextRestoreRestartsPrt : Obligations.ContextRestoreRestartsPrt := by
  intro c s events agenda ready idle noFence noSwitch free room
  have first := startGeneration_of_room (s := { s with agenda := events, vfe := { s.vfe with lastPrt := some c } })
    (prtControl c true) ⟨0, 0, 0⟩ [] (prtPayload_length ready) free room
  rw [if_pos rfl, ← idle] at first
  calc step s
      = contextRestore c { s with agenda := events } := step_of_agenda agenda
    _ = .next (generatePrt c true { s with agenda := events }) := contextRestore_of_ready ready idle noFence noSwitch
    _ = _ := congrArg _ first

/-! ### O58: the preempt signal -/

/-- The end of a root leaves the signal alone. -/
@[simp] theorem endRoot_preemptSent (s : State) (eot : Bool) (o : Outstanding) :
    (s.endRoot eot o).ts.preemptSent = s.ts.preemptSent := by
  unfold State.endRoot; split <;> rfl

/-- The signal, once it has been sent after a move, had been sent before it or is sent by TS's own event. -/
theorem Move.preemptSent_cases {s t : State} {e : Event} (hm : Move s e t) (sent : t.ts.preemptSent = true) :
    s.ts.preemptSent = true ∨ e = .tsPreempt := by
  cases hm with
  | preemptSent => exact .inr rfl
  | switchComplete => cases sent
  | serve half =>
    obtain ⟨pool, fence, heq⟩ := serveTd_cases _ half s
    exact .inl (by rwa [heq] at sent)
  | generate _ g =>
    obtain ⟨q, hq, -⟩ := generateStep_ts g _
    exact .inl (by rwa [hq] at sent)
  | stateFlush => exact .inl (by rwa [stateFlushStep_ts] at sent)
  | derefUrb => exact .inl (by rwa [endRoot_preemptSent] at sent)
  | derefNourb => exact .inl (by rwa [endRoot_preemptSent] at sent)
  | _ => exact .inl sent

theorem readyToPreempt_iff (s : State) : readyToPreempt s = true ↔
    s.vfe.work = none ∧ s.ts.rootQ = [] ∧ s.ts.aside = []
      ∧ (s.vfe.record.fastPreempt = true ∨ s.ts.rootCount ≤ 1 ∧ s.ts.childQ = []) := by
  simp [readyToPreempt, and_assoc]

/-- TS sends the signal only for a pending switch, and ready to preempt (60_exceptions.md R456, R458). -/
theorem tsPreempt_sends {s : State} (unsent : s.ts.preemptSent = false) (sent : (tsPreempt s).ts.preemptSent = true) :
    s.ts.preemptPending = true ∧ readyToPreempt s = true := by
  unfold tsPreempt at sent
  split at sent
  next due =>
    simp only [Bool.and_eq_true] at due
    obtain ⟨⟨pending, -⟩, ready⟩ := due
    exact ⟨pending, ready⟩
  next => exact absurd sent (by simp [unsent])

/-- An event that sends the signal finds a pending switch and TS ready to preempt. -/
theorem handle_sends_preempt {e : Event} {s t : State} (h : handle e s = .next t) (unsent : s.ts.preemptSent = false)
    (sent : t.ts.preemptSent = true) : s.ts.preemptPending = true ∧ readyToPreempt s = true := by
  obtain before | rfl := (handle_moves h).preemptSent_cases sent
  · exact absurd before (by simp [unsent])
  · cases h
    exact tsPreempt_sends unsent sent

/-! ### O58: the end of the switch -/

/-- The model's check that a switch may complete, condition by condition (60_exceptions.md R456). -/
theorem switchReady_iff (s : State) : switchReady s = true ↔
    s.ts.preemptPending = true ∧ s.ts.preemptSent = true ∧ s.vfe.work = none ∧ s.ts.rootQ = [] ∧ s.ts.aside = []
      ∧ s.ts.childQ = [] ∧ s.ts.rootCount = 0 ∧ ∀ b ∈ s.vfe.pool.referenced, b = false := by
  simp [switchReady, HandlePool.allFree, and_assoc]

theorem switchComplete_of_ready {s : State} (ready : switchReady s = true) (stream : List StreamItem) :
    switchComplete stream s
      = { s with
          cs := { s.cs with stream := stream }
          vfe := { s.vfe with lastPrt := none }
          ts := { s.ts with preemptPending := false, preemptSent := false, fence := .none } } := if_pos ready

theorem switchComplete_of_not_ready {s : State} (held : ¬ switchReady s = true) (stream : List StreamItem) :
    switchComplete stream s = s := if_neg held

/-- Settles O58: the one event that sends the signal, and the switch with its conditions met or one of them not. -/
theorem preemptSentWhenReady : Obligations.PreemptSentWhenReady := by
  refine ⟨fun s t hstep unsent sent => ?_, fun s events stream agenda => ⟨?_, ?_⟩⟩
  · obtain ⟨agenda, count, state⟩ := nextEvent_state s
    have unsentNext : (nextEvent s).2.ts.preemptSent = false := by rw [state]; exact unsent
    have due := handle_sends_preempt hstep unsentNext sent
    rw [state, readyToPreempt_iff] at due
    obtain ⟨pending, idle, noRoot, -, few⟩ := due
    exact ⟨pending, idle, noRoot, few⟩
  · intro pending sent idle noRoot noAside noChild noCount noHandle
    have ready : switchReady s = true :=
      (switchReady_iff _).mpr ⟨pending, sent, idle, noRoot, noAside, noChild, noCount, noHandle⟩
    rw [step_of_agenda agenda, handle, switchComplete_of_ready (s := { s with agenda := events }) ready]
  · intro unmet
    have held : ¬ switchReady s = true := by
      rw [switchReady_iff]
      rintro ⟨pending, sent, idle, noRoot, noAside, noChild, noCount, noHandle⟩
      obtain ⟨b, inPool, used⟩ : ∃ b ∈ s.vfe.pool.referenced, b = true := by
        simpa only [pending, sent, idle, noRoot, noAside, noChild, noCount, ne_eq, not_true, Bool.true_eq_false,
          false_or] using unmet
      exact Bool.false_ne_true ((noHandle b inPool).symm.trans used)
    rw [step_of_agenda agenda, handle, switchComplete_of_not_ready (s := { s with agenda := events }) held]

end Sys2Proof.Proofs
end

section
/-! SUPPORT. The Command Streamer's own commands, when MI_FLUSH completes, and the state after reset; and the statements
of 70_reset_and_hazards.md they settle. -/

namespace Sys2Proof.Proofs

open Sys2Proof Sys2Proof.Machine Sys2Proof.Certificates

/-! ### O17: MI_FLUSH and what needs one -/

/-- With no switch pending, the Command Streamer's turn is the external command at the head of the stream. -/
theorem csTurn_of_external {s : State} {c : CsCommand} {rest : List StreamItem}
    (first : s.cs.stream = .external c :: rest) (noSwitch : s.ts.preemptPending = false) :
    csTurn s = csCommand c s := by
  simp [csTurn, first, noSwitch]

/-- The model's check that nothing is in the pipeline, condition by condition (70_reset_and_hazards.md R486). -/
theorem pipelineEmpty_iff (s : State) : pipelineEmpty s = true ↔
    s.vfe.work = none ∧ s.ts.rootQ = [] ∧ s.ts.aside = [] ∧ s.ts.childQ = [] ∧ s.ts.rootCount = 0
      ∧ s.ts.fence = .none ∧ (∀ b ∈ s.vfe.pool.referenced, b = false) ∧ s.td.queue = []
      ∧ s.td.freeSlots = s.params.threadSlots := by
  simp [pipelineEmpty, HandlePool.allFree, and_assoc]

theorem csFlush_of_empty {s : State} {c : CsCommand} {rest : List StreamItem}
    (first : s.cs.stream = .external c :: rest) (empty : pipelineEmpty s = true) :
    csFlush s
      = { s with
          cs := { s.cs with stream := rest }
          vfe := { s.vfe with primSinceFlush := false, primSinceStateFlush := false }
          stale := [] } := by
  rw [csFlush, if_pos empty, State.dropStream, first, List.drop_one, List.tail_cons]

theorem csFlush_of_not_empty {s : State} (held : ¬ pipelineEmpty s = true) : csFlush s = s := if_neg held

/-- A command that changes pipeline, bases or SIP looks for its flush first. -/
theorem csCommand_of_unflushed {c : CsCommand} {s : State} (notFlush : c ≠ .flush)
    (notArbitration : ∀ on, c ≠ .arbitration on) (unflushed : s.vfe.primSinceFlush = true) :
    csCommand c s = .refused .flushMissing := by
  have refused (k : Result) : requireFlushed s k = .refused .flushMissing :=
    require_of_not (by rw [unflushed]; rfl) _ _
  cases c with
  | flush => exact absurd rfl notFlush
  | arbitration on => exact absurd rfl (notArbitration on)
  | selectPipeline | setBases | setSip => exact refused _

/-- Settles O17: the turn is that of the command at the head, whose checks are met or not. -/
theorem flushWaitsForPipeline : Obligations.FlushWaitsForPipeline := by
  intro s c rest first noSwitch
  rw [csTurn_of_external first noSwitch]
  refine ⟨?_, ?_, ?_⟩
  · rintro rfl unmet
    have held : ¬ pipelineEmpty s = true := by
      rw [pipelineEmpty_iff]
      rintro ⟨idle, noRoot, noAside, noChild, noCount, noFence, noHandle, noRequest, allSlots⟩
      obtain ⟨b, inPool, used⟩ : ∃ b ∈ s.vfe.pool.referenced, b = true := by
        simpa only [idle, noRoot, noAside, noChild, noCount, noFence, noRequest, allSlots, ne_eq, not_true, false_or,
          or_false] using unmet
      exact Bool.false_ne_true ((noHandle b inPool).symm.trans used)
    rw [csCommand, csFlush_of_not_empty held]
  · rintro rfl idle noRoot noAside noChild noCount noFence noHandle noRequest allSlots
    have empty : pipelineEmpty s = true :=
      (pipelineEmpty_iff s).mpr
        ⟨idle, noRoot, noAside, noChild, noCount, noFence, noHandle, noRequest, allSlots⟩
    rw [csCommand, csFlush_of_empty first empty]
  · rintro ⟨notFlush, notArbitration⟩ unflushed
    exact csCommand_of_unflushed notFlush notArbitration unflushed

/-! ### O56, O57: the start state -/

section Reset

variable (p : Config.Params)

theorem storesCanonical_resetWith : storesCanonical (State.resetWith p) = true :=
  (storesCanonical_iff _).mpr ⟨rfl, rfl, fun _ older => absurd older List.not_mem_nil⟩

/-- Without an outstanding root the count is 0 and the lists of ids and slots are empty. -/
theorem recordsAgree_resetWith : recordsAgree (State.resetWith p).ts := ⟨rfl, rfl, rfl, .nil, .nil⟩

/-- Every slot is free and there is no thread to name. -/
theorem threadsAgree_resetWith : ThreadsAgree p (State.resetWith p).td :=
  ⟨Nat.add_zero _, .nil, fun _ thread => absurd thread List.not_mem_nil⟩

/-- Both queues are empty, and no child request waits at TD for its ChildQ entry. -/
theorem queuesBounded_resetWith : queuesBounded (State.resetWith p) := by
  have noEntry : childQEntries (State.resetWith p) = 0 := by
    simp [childQEntries, unacceptedChildren, State.resetWith]
  exact ⟨Nat.zero_le _, noEntry ▸ Nat.zero_le _⟩

/-- No record has been written, and the pool has no handle. -/
theorem poolAgrees_resetWith : poolAgrees (State.resetWith p).vfe :=
  ⟨fun loaded => absurd loaded Bool.false_ne_true, fun handle => absurd rfl handle⟩

/-- Nothing is in flight: an MI_FLUSH has nothing to wait for. -/
theorem pipelineEmpty_resetWith : pipelineEmpty (State.resetWith p) = true :=
  (pipelineEmpty_iff _).mpr
    ⟨rfl, rfl, rfl, rfl, rfl, rfl, fun _ handle => absurd handle List.not_mem_nil, rfl, rfl⟩

end Reset

/-- Settles O56: each invariant holds of the empty queues, lists and stores. -/
theorem invariantsHoldAtReset : Obligations.InvariantsHoldAtReset := by
  intro p
  obtain ⟨slots, names⟩ := threadsAgree_resetWith p
  exact ⟨storesCanonical_resetWith p, recordsAgree_resetWith p, slots, names, queuesBounded_resetWith p,
    poolAgrees_resetWith p, rfl, rfl, rfl⟩

/-- Settles O57: nothing is in flight at any size, and the default sizes have 60 slots; the other fields are as the
start state writes them. -/
theorem startState : Obligations.StartState := by
  obtain ⟨idle, noRoot, noAside, noChild, noCount, noFence, -, noRequest, allSlots⟩ :=
    (pipelineEmpty_iff _).mp (pipelineEmpty_resetWith Config.defaults)
  have slots : Config.defaults.threadSlots = 60 := rfl
  exact ⟨rfl, rfl, rfl, rfl, rfl, noRoot, noChild, noCount, rfl, rfl, rfl, noFence, rfl, rfl, rfl, rfl,
    allSlots.trans slots, rfl, noRequest, noAside, idle, rfl⟩

end Sys2Proof.Proofs
end
